-- ==== Sys2Proof/Word.lean ====
section
/-! DEFINITION. The two operand widths of the block: a 32-bit word and an 8-bit stream byte
(spec/20_memory.md R54). -/

namespace Sys2Proof

/-- A 32-bit word, numbered `w[31]` down to `w[0]` (00_scope.md R9). -/
abbrev Word := BitVec 32

/-- One stream byte, its first bit in stream order the most significant (20_memory.md R50). -/
abbrev Byte := BitVec 8

end Sys2Proof
end

