-- ==== Sys2Proof/Syntax.lean ====
section
/-! DEFINITION. The instructions: one constructor per row of spec/opcode_table.json, the 4 commands of
format CMD34 (spec/30_encoding.md R70, R71) and the 73 header classes of format HDR32 (R77). An operand
holds every bit of the word that the row's mask leaves free, so that encoding loses nothing. -/

namespace Sys2Proof

/-- One constructor per row of the opcode table. `ignored` is the part of `din` the command does not
read (30_encoding.md R72). A header class carries the window word `w` it classifies (R77). -/
inductive Instr where
  /-- NOP: `cmd` = 0b00. -/
  | nop (ignored : Word)
  /-- DECODE_WORD: `cmd` = 0b01, `w` = `din[31:0]`. -/
  | decodeWord (w : Word)
  /-- PUSH_BYTE: `cmd` = 0b10, `b` = `din[7:0]`, `ignored` = `din[31:8]`. -/
  | pushByte (ignored : BitVec 24) (b : Byte)
  /-- CLEAR: `cmd` = 0b11. -/
  | clear (ignored : Word)
  | hdrRejSyncH0 (w : Word)
  | hdrRejSyncH1 (w : Word)
  | hdrRejSyncH2 (w : Word)
  | hdrRejSyncH3 (w : Word)
  | hdrRejSyncH4 (w : Word)
  | hdrRejSyncH5 (w : Word)
  | hdrRejSyncH6 (w : Word)
  | hdrRejSyncH7 (w : Word)
  | hdrRejSyncH8 (w : Word)
  | hdrRejSyncH9 (w : Word)
  | hdrRejSyncH10 (w : Word)
  | hdrRejVlVer0x (w : Word)
  | hdrRejVlVer10 (w : Word)
  | hdrRejVlVer11Lay1x (w : Word)
  | hdrRejVlVer11Lay00 (w : Word)
  | hdrRejBrFree (w : Word)
  | hdrRejBrReserved (w : Word)
  | hdrRejSrReservedBr1 (w : Word)
  | hdrRejSrReservedBr2 (w : Word)
  | hdrRejSrReservedBr3 (w : Word)
  | hdrRejSrReservedBr4 (w : Word)
  | hdrRejSrReservedBr5 (w : Word)
  | hdrRejSrReservedBr6 (w : Word)
  | hdrRejSrReservedBr7 (w : Word)
  | hdrRejSrReservedBr8 (w : Word)
  | hdrRejSrReservedBr9 (w : Word)
  | hdrRejSrReservedBr10 (w : Word)
  | hdrRejSrReservedBr11 (w : Word)
  | hdrRejSrReservedBr12 (w : Word)
  | hdrRejSrReservedBr13 (w : Word)
  | hdrRejSrReservedBr14 (w : Word)
  | hdrAcceptBr1Sr0 (w : Word)
  | hdrAcceptBr1Sr1 (w : Word)
  | hdrAcceptBr1Sr2 (w : Word)
  | hdrAcceptBr2Sr0 (w : Word)
  | hdrAcceptBr2Sr1 (w : Word)
  | hdrAcceptBr2Sr2 (w : Word)
  | hdrAcceptBr3Sr0 (w : Word)
  | hdrAcceptBr3Sr1 (w : Word)
  | hdrAcceptBr3Sr2 (w : Word)
  | hdrAcceptBr4Sr0 (w : Word)
  | hdrAcceptBr4Sr1 (w : Word)
  | hdrAcceptBr4Sr2 (w : Word)
  | hdrAcceptBr5Sr0 (w : Word)
  | hdrAcceptBr5Sr1 (w : Word)
  | hdrAcceptBr5Sr2 (w : Word)
  | hdrAcceptBr6Sr0 (w : Word)
  | hdrAcceptBr6Sr1 (w : Word)
  | hdrAcceptBr6Sr2 (w : Word)
  | hdrAcceptBr7Sr0 (w : Word)
  | hdrAcceptBr7Sr1 (w : Word)
  | hdrAcceptBr7Sr2 (w : Word)
  | hdrAcceptBr8Sr0 (w : Word)
  | hdrAcceptBr8Sr1 (w : Word)
  | hdrAcceptBr8Sr2 (w : Word)
  | hdrAcceptBr9Sr0 (w : Word)
  | hdrAcceptBr9Sr1 (w : Word)
  | hdrAcceptBr9Sr2 (w : Word)
  | hdrAcceptBr10Sr0 (w : Word)
  | hdrAcceptBr10Sr1 (w : Word)
  | hdrAcceptBr10Sr2 (w : Word)
  | hdrAcceptBr11Sr0 (w : Word)
  | hdrAcceptBr11Sr1 (w : Word)
  | hdrAcceptBr11Sr2 (w : Word)
  | hdrAcceptBr12Sr0 (w : Word)
  | hdrAcceptBr12Sr1 (w : Word)
  | hdrAcceptBr12Sr2 (w : Word)
  | hdrAcceptBr13Sr0 (w : Word)
  | hdrAcceptBr13Sr1 (w : Word)
  | hdrAcceptBr13Sr2 (w : Word)
  | hdrAcceptBr14Sr0 (w : Word)
  | hdrAcceptBr14Sr1 (w : Word)
  | hdrAcceptBr14Sr2 (w : Word)
  deriving DecidableEq, Repr

end Sys2Proof
end

