-- ==== Sys2Proof/WellFormed.lean ====
section
/-! DEFINITION. Well-formed instructions. A command is well formed whatever its operands are: no `din` value
is illegal (spec/30_encoding.md R78). A header class is well formed when its window has the fields the
class stands for, said here through the header fields of R73 and the classes' outcomes of R77; the masks
and matches of the opcode table stand in Decode.lean. -/

namespace Sys2Proof

/-- What the window of a header class looks like (30_encoding.md R77). -/
inductive HeaderShape where
  /-- `H[k]` is the first 0 of the sync field. -/
  | syncZeroAt (k : Nat)
  /-- Version code 00 or 01. -/
  | ver0x
  /-- Version code 10. -/
  | ver10
  /-- Version code 11, layer code 10 or 11. -/
  | ver11Lay1x
  /-- Version code 11, layer code 00. -/
  | ver11Lay00
  /-- Bitrate index 0. -/
  | brFree
  /-- Bitrate index 15. -/
  | brReserved
  /-- Bitrate index `bri`, sampling-rate index 3. -/
  | srReserved (bri : Nat)
  /-- Bitrate index `bri`, sampling-rate index `sri`, both listed. -/
  | accept (bri sri : Nat)
  deriving DecidableEq, Repr

namespace HeaderShape

/-- The 11 sync bits `H[0,11)` are all 1 (41_header_decode.md R121). -/
def syncOk (w : Word) : Bool := w.extractLsb' 21 11 == 0x7FF#11

/-- Sync passes and the version and layer codes are 0b11 and 0b01 (41_header_decode.md R125). -/
def layer3Ok (w : Word) : Bool :=
  syncOk w && w.extractLsb' 19 2 == 0b11#2 && w.extractLsb' 17 2 == 0b01#2

/-- The window has the shape. -/
def holds (h : HeaderShape) (w : Word) : Bool :=
  match h with
  | syncZeroAt k => decide (k < 11) && w.toNat / 2 ^ (31 - k) == 2 ^ (k + 1) - 2
  | ver0x => syncOk w && decide ((w.extractLsb' 19 2).toNat < 2)
  | ver10 => syncOk w && w.extractLsb' 19 2 == 0b10#2
  | ver11Lay1x => syncOk w && w.extractLsb' 19 2 == 0b11#2 && decide (2 ≤ (w.extractLsb' 17 2).toNat)
  | ver11Lay00 => syncOk w && w.extractLsb' 19 2 == 0b11#2 && w.extractLsb' 17 2 == 0b00#2
  | brFree => layer3Ok w && w.extractLsb' 12 4 == 0#4
  | brReserved => layer3Ok w && w.extractLsb' 12 4 == 15#4
  | srReserved bri =>
      layer3Ok w && decide (1 ≤ bri ∧ bri ≤ 14) && (w.extractLsb' 12 4).toNat == bri
        && w.extractLsb' 10 2 == 3#2
  | accept bri sri =>
      layer3Ok w && decide (1 ≤ bri ∧ bri ≤ 14 ∧ sri ≤ 2) && (w.extractLsb' 12 4).toNat == bri
        && (w.extractLsb' 10 2).toNat == sri

end HeaderShape

namespace Instr

/-- The class and the window of a header row, nothing for a command. -/
def header : Instr → Option (HeaderShape × Word)
  | .nop _ => none
  | .decodeWord _ => none
  | .pushByte _ _ => none
  | .clear _ => none
  | .hdrRejSyncH0 w => some (.syncZeroAt 0, w)
  | .hdrRejSyncH1 w => some (.syncZeroAt 1, w)
  | .hdrRejSyncH2 w => some (.syncZeroAt 2, w)
  | .hdrRejSyncH3 w => some (.syncZeroAt 3, w)
  | .hdrRejSyncH4 w => some (.syncZeroAt 4, w)
  | .hdrRejSyncH5 w => some (.syncZeroAt 5, w)
  | .hdrRejSyncH6 w => some (.syncZeroAt 6, w)
  | .hdrRejSyncH7 w => some (.syncZeroAt 7, w)
  | .hdrRejSyncH8 w => some (.syncZeroAt 8, w)
  | .hdrRejSyncH9 w => some (.syncZeroAt 9, w)
  | .hdrRejSyncH10 w => some (.syncZeroAt 10, w)
  | .hdrRejVlVer0x w => some (.ver0x, w)
  | .hdrRejVlVer10 w => some (.ver10, w)
  | .hdrRejVlVer11Lay1x w => some (.ver11Lay1x, w)
  | .hdrRejVlVer11Lay00 w => some (.ver11Lay00, w)
  | .hdrRejBrFree w => some (.brFree, w)
  | .hdrRejBrReserved w => some (.brReserved, w)
  | .hdrRejSrReservedBr1 w => some (.srReserved 1, w)
  | .hdrRejSrReservedBr2 w => some (.srReserved 2, w)
  | .hdrRejSrReservedBr3 w => some (.srReserved 3, w)
  | .hdrRejSrReservedBr4 w => some (.srReserved 4, w)
  | .hdrRejSrReservedBr5 w => some (.srReserved 5, w)
  | .hdrRejSrReservedBr6 w => some (.srReserved 6, w)
  | .hdrRejSrReservedBr7 w => some (.srReserved 7, w)
  | .hdrRejSrReservedBr8 w => some (.srReserved 8, w)
  | .hdrRejSrReservedBr9 w => some (.srReserved 9, w)
  | .hdrRejSrReservedBr10 w => some (.srReserved 10, w)
  | .hdrRejSrReservedBr11 w => some (.srReserved 11, w)
  | .hdrRejSrReservedBr12 w => some (.srReserved 12, w)
  | .hdrRejSrReservedBr13 w => some (.srReserved 13, w)
  | .hdrRejSrReservedBr14 w => some (.srReserved 14, w)
  | .hdrAcceptBr1Sr0 w => some (.accept 1 0, w)
  | .hdrAcceptBr1Sr1 w => some (.accept 1 1, w)
  | .hdrAcceptBr1Sr2 w => some (.accept 1 2, w)
  | .hdrAcceptBr2Sr0 w => some (.accept 2 0, w)
  | .hdrAcceptBr2Sr1 w => some (.accept 2 1, w)
  | .hdrAcceptBr2Sr2 w => some (.accept 2 2, w)
  | .hdrAcceptBr3Sr0 w => some (.accept 3 0, w)
  | .hdrAcceptBr3Sr1 w => some (.accept 3 1, w)
  | .hdrAcceptBr3Sr2 w => some (.accept 3 2, w)
  | .hdrAcceptBr4Sr0 w => some (.accept 4 0, w)
  | .hdrAcceptBr4Sr1 w => some (.accept 4 1, w)
  | .hdrAcceptBr4Sr2 w => some (.accept 4 2, w)
  | .hdrAcceptBr5Sr0 w => some (.accept 5 0, w)
  | .hdrAcceptBr5Sr1 w => some (.accept 5 1, w)
  | .hdrAcceptBr5Sr2 w => some (.accept 5 2, w)
  | .hdrAcceptBr6Sr0 w => some (.accept 6 0, w)
  | .hdrAcceptBr6Sr1 w => some (.accept 6 1, w)
  | .hdrAcceptBr6Sr2 w => some (.accept 6 2, w)
  | .hdrAcceptBr7Sr0 w => some (.accept 7 0, w)
  | .hdrAcceptBr7Sr1 w => some (.accept 7 1, w)
  | .hdrAcceptBr7Sr2 w => some (.accept 7 2, w)
  | .hdrAcceptBr8Sr0 w => some (.accept 8 0, w)
  | .hdrAcceptBr8Sr1 w => some (.accept 8 1, w)
  | .hdrAcceptBr8Sr2 w => some (.accept 8 2, w)
  | .hdrAcceptBr9Sr0 w => some (.accept 9 0, w)
  | .hdrAcceptBr9Sr1 w => some (.accept 9 1, w)
  | .hdrAcceptBr9Sr2 w => some (.accept 9 2, w)
  | .hdrAcceptBr10Sr0 w => some (.accept 10 0, w)
  | .hdrAcceptBr10Sr1 w => some (.accept 10 1, w)
  | .hdrAcceptBr10Sr2 w => some (.accept 10 2, w)
  | .hdrAcceptBr11Sr0 w => some (.accept 11 0, w)
  | .hdrAcceptBr11Sr1 w => some (.accept 11 1, w)
  | .hdrAcceptBr11Sr2 w => some (.accept 11 2, w)
  | .hdrAcceptBr12Sr0 w => some (.accept 12 0, w)
  | .hdrAcceptBr12Sr1 w => some (.accept 12 1, w)
  | .hdrAcceptBr12Sr2 w => some (.accept 12 2, w)
  | .hdrAcceptBr13Sr0 w => some (.accept 13 0, w)
  | .hdrAcceptBr13Sr1 w => some (.accept 13 1, w)
  | .hdrAcceptBr13Sr2 w => some (.accept 13 2, w)
  | .hdrAcceptBr14Sr0 w => some (.accept 14 0, w)
  | .hdrAcceptBr14Sr1 w => some (.accept 14 1, w)
  | .hdrAcceptBr14Sr2 w => some (.accept 14 2, w)

/-- The check: a header class's window has the class's shape. -/
def wellFormed (i : Instr) : Bool :=
  match i.header with
  | some (h, w) => h.holds w
  | none => true

end Instr

end Sys2Proof
end

