-- ==== Sys2Proof/Decode.lean ====
section
/-! DEFINITION. The decoder of both encodings and the encoder (spec/30_encoding.md). A command is selected by
bits 33:32 of the 34-bit word `{cmd, din}` (R70, R71). A header word is classified by the 73 rows of
the opcode table, each a mask and a match (R77). Decoding is total: what no row covers is rejected by name. -/

namespace Sys2Proof

/-- The two word formats (30_encoding.md R71, R73). -/
inductive CodeWord where
  /-- A cycle's command word `{cmd[1:0], din[31:0]}`. -/
  | cmd34 (c : BitVec 34)
  /-- A header window word. -/
  | hdr32 (w : Word)
  deriving DecidableEq, Repr

/-- Why a word decodes to no instruction. -/
inductive DecodeError where
  /-- No row of the header table matches (no word reaches this: R77). -/
  | noHeaderRow (w : Word)
  /-- The number of bits belongs to neither format. -/
  | unknownLength (nbits : Nat)
  /-- A bit is set above the format's highest bit. -/
  | bitsOutsideFormat (nbits w : Nat)
  deriving DecidableEq, Repr

/-- A row of format HDR32: it matches `w` when `w &&& mask = value`. -/
structure HeaderRow where
  mask : Word
  value : Word
  make : Word → Instr

/-- The row matches the word (30_encoding.md R77). -/
def HeaderRow.matches (r : HeaderRow) (w : Word) : Bool := w &&& r.mask == r.value

/-- `HDR_REJ_SYNC_H<k>`: `H[k]` is the first 0 of the sync field (R77). -/
def syncRows : List HeaderRow := [
  ⟨0x80000000#32, 0x00000000#32, .hdrRejSyncH0⟩,
  ⟨0xC0000000#32, 0x80000000#32, .hdrRejSyncH1⟩,
  ⟨0xE0000000#32, 0xC0000000#32, .hdrRejSyncH2⟩,
  ⟨0xF0000000#32, 0xE0000000#32, .hdrRejSyncH3⟩,
  ⟨0xF8000000#32, 0xF0000000#32, .hdrRejSyncH4⟩,
  ⟨0xFC000000#32, 0xF8000000#32, .hdrRejSyncH5⟩,
  ⟨0xFE000000#32, 0xFC000000#32, .hdrRejSyncH6⟩,
  ⟨0xFF000000#32, 0xFE000000#32, .hdrRejSyncH7⟩,
  ⟨0xFF800000#32, 0xFF000000#32, .hdrRejSyncH8⟩,
  ⟨0xFFC00000#32, 0xFF800000#32, .hdrRejSyncH9⟩,
  ⟨0xFFE00000#32, 0xFFC00000#32, .hdrRejSyncH10⟩]

/-- `HDR_REJ_VL_*` (R77). -/
def versionLayerRows : List HeaderRow := [
  ⟨0xFFF00000#32, 0xFFE00000#32, .hdrRejVlVer0x⟩,
  ⟨0xFFF80000#32, 0xFFF00000#32, .hdrRejVlVer10⟩,
  ⟨0xFFFC0000#32, 0xFFFC0000#32, .hdrRejVlVer11Lay1x⟩,
  ⟨0xFFFE0000#32, 0xFFF80000#32, .hdrRejVlVer11Lay00⟩]

/-- `HDR_REJ_BR_*` (R77). -/
def bitrateRows : List HeaderRow := [
  ⟨0xFFFEF000#32, 0xFFFA0000#32, .hdrRejBrFree⟩,
  ⟨0xFFFEF000#32, 0xFFFAF000#32, .hdrRejBrReserved⟩]

/-- `HDR_REJ_SR_RESERVED_BR<i>` (R77). -/
def srateRows : List HeaderRow := [
  ⟨0xFFFEFC00#32, 0xFFFA1C00#32, .hdrRejSrReservedBr1⟩,
  ⟨0xFFFEFC00#32, 0xFFFA2C00#32, .hdrRejSrReservedBr2⟩,
  ⟨0xFFFEFC00#32, 0xFFFA3C00#32, .hdrRejSrReservedBr3⟩,
  ⟨0xFFFEFC00#32, 0xFFFA4C00#32, .hdrRejSrReservedBr4⟩,
  ⟨0xFFFEFC00#32, 0xFFFA5C00#32, .hdrRejSrReservedBr5⟩,
  ⟨0xFFFEFC00#32, 0xFFFA6C00#32, .hdrRejSrReservedBr6⟩,
  ⟨0xFFFEFC00#32, 0xFFFA7C00#32, .hdrRejSrReservedBr7⟩,
  ⟨0xFFFEFC00#32, 0xFFFA8C00#32, .hdrRejSrReservedBr8⟩,
  ⟨0xFFFEFC00#32, 0xFFFA9C00#32, .hdrRejSrReservedBr9⟩,
  ⟨0xFFFEFC00#32, 0xFFFAAC00#32, .hdrRejSrReservedBr10⟩,
  ⟨0xFFFEFC00#32, 0xFFFABC00#32, .hdrRejSrReservedBr11⟩,
  ⟨0xFFFEFC00#32, 0xFFFACC00#32, .hdrRejSrReservedBr12⟩,
  ⟨0xFFFEFC00#32, 0xFFFADC00#32, .hdrRejSrReservedBr13⟩,
  ⟨0xFFFEFC00#32, 0xFFFAEC00#32, .hdrRejSrReservedBr14⟩]

/-- `HDR_ACCEPT_BR<i>_SR0` (R77). -/
def acceptRowsSr0 : List HeaderRow := [
  ⟨0xFFFEFC00#32, 0xFFFA1000#32, .hdrAcceptBr1Sr0⟩,
  ⟨0xFFFEFC00#32, 0xFFFA2000#32, .hdrAcceptBr2Sr0⟩,
  ⟨0xFFFEFC00#32, 0xFFFA3000#32, .hdrAcceptBr3Sr0⟩,
  ⟨0xFFFEFC00#32, 0xFFFA4000#32, .hdrAcceptBr4Sr0⟩,
  ⟨0xFFFEFC00#32, 0xFFFA5000#32, .hdrAcceptBr5Sr0⟩,
  ⟨0xFFFEFC00#32, 0xFFFA6000#32, .hdrAcceptBr6Sr0⟩,
  ⟨0xFFFEFC00#32, 0xFFFA7000#32, .hdrAcceptBr7Sr0⟩,
  ⟨0xFFFEFC00#32, 0xFFFA8000#32, .hdrAcceptBr8Sr0⟩,
  ⟨0xFFFEFC00#32, 0xFFFA9000#32, .hdrAcceptBr9Sr0⟩,
  ⟨0xFFFEFC00#32, 0xFFFAA000#32, .hdrAcceptBr10Sr0⟩,
  ⟨0xFFFEFC00#32, 0xFFFAB000#32, .hdrAcceptBr11Sr0⟩,
  ⟨0xFFFEFC00#32, 0xFFFAC000#32, .hdrAcceptBr12Sr0⟩,
  ⟨0xFFFEFC00#32, 0xFFFAD000#32, .hdrAcceptBr13Sr0⟩,
  ⟨0xFFFEFC00#32, 0xFFFAE000#32, .hdrAcceptBr14Sr0⟩]

/-- `HDR_ACCEPT_BR<i>_SR1` (R77). -/
def acceptRowsSr1 : List HeaderRow := [
  ⟨0xFFFEFC00#32, 0xFFFA1400#32, .hdrAcceptBr1Sr1⟩,
  ⟨0xFFFEFC00#32, 0xFFFA2400#32, .hdrAcceptBr2Sr1⟩,
  ⟨0xFFFEFC00#32, 0xFFFA3400#32, .hdrAcceptBr3Sr1⟩,
  ⟨0xFFFEFC00#32, 0xFFFA4400#32, .hdrAcceptBr4Sr1⟩,
  ⟨0xFFFEFC00#32, 0xFFFA5400#32, .hdrAcceptBr5Sr1⟩,
  ⟨0xFFFEFC00#32, 0xFFFA6400#32, .hdrAcceptBr6Sr1⟩,
  ⟨0xFFFEFC00#32, 0xFFFA7400#32, .hdrAcceptBr7Sr1⟩,
  ⟨0xFFFEFC00#32, 0xFFFA8400#32, .hdrAcceptBr8Sr1⟩,
  ⟨0xFFFEFC00#32, 0xFFFA9400#32, .hdrAcceptBr9Sr1⟩,
  ⟨0xFFFEFC00#32, 0xFFFAA400#32, .hdrAcceptBr10Sr1⟩,
  ⟨0xFFFEFC00#32, 0xFFFAB400#32, .hdrAcceptBr11Sr1⟩,
  ⟨0xFFFEFC00#32, 0xFFFAC400#32, .hdrAcceptBr12Sr1⟩,
  ⟨0xFFFEFC00#32, 0xFFFAD400#32, .hdrAcceptBr13Sr1⟩,
  ⟨0xFFFEFC00#32, 0xFFFAE400#32, .hdrAcceptBr14Sr1⟩]

/-- `HDR_ACCEPT_BR<i>_SR2` (R77). -/
def acceptRowsSr2 : List HeaderRow := [
  ⟨0xFFFEFC00#32, 0xFFFA1800#32, .hdrAcceptBr1Sr2⟩,
  ⟨0xFFFEFC00#32, 0xFFFA2800#32, .hdrAcceptBr2Sr2⟩,
  ⟨0xFFFEFC00#32, 0xFFFA3800#32, .hdrAcceptBr3Sr2⟩,
  ⟨0xFFFEFC00#32, 0xFFFA4800#32, .hdrAcceptBr4Sr2⟩,
  ⟨0xFFFEFC00#32, 0xFFFA5800#32, .hdrAcceptBr5Sr2⟩,
  ⟨0xFFFEFC00#32, 0xFFFA6800#32, .hdrAcceptBr6Sr2⟩,
  ⟨0xFFFEFC00#32, 0xFFFA7800#32, .hdrAcceptBr7Sr2⟩,
  ⟨0xFFFEFC00#32, 0xFFFA8800#32, .hdrAcceptBr8Sr2⟩,
  ⟨0xFFFEFC00#32, 0xFFFA9800#32, .hdrAcceptBr9Sr2⟩,
  ⟨0xFFFEFC00#32, 0xFFFAA800#32, .hdrAcceptBr10Sr2⟩,
  ⟨0xFFFEFC00#32, 0xFFFAB800#32, .hdrAcceptBr11Sr2⟩,
  ⟨0xFFFEFC00#32, 0xFFFAC800#32, .hdrAcceptBr12Sr2⟩,
  ⟨0xFFFEFC00#32, 0xFFFAD800#32, .hdrAcceptBr13Sr2⟩,
  ⟨0xFFFEFC00#32, 0xFFFAE800#32, .hdrAcceptBr14Sr2⟩]

/-- The 73 rows of format HDR32. They are pairwise disjoint, so their order does not matter (R77). -/
def headerTable : List HeaderRow :=
  syncRows ++ versionLayerRows ++ bitrateRows ++ srateRows ++ acceptRowsSr0 ++ acceptRowsSr1 ++ acceptRowsSr2

/-- The header class of a word: the row that matches it (R77). -/
def decodeHeader (w : Word) : Except DecodeError Instr :=
  match headerTable.find? (·.matches w) with
  | some r => .ok (r.make w)
  | none => .error (.noHeaderRow w)

/-- The command of a 34-bit command word: all four codes are defined (R70, R78). -/
def decodeCommand (c : BitVec 34) : Instr :=
  let cmd := c.extractLsb' 32 2
  let din := c.extractLsb' 0 32
  if cmd = 0b00#2 then .nop din
  else if cmd = 0b01#2 then .decodeWord din
  else if cmd = 0b10#2 then .pushByte (din.extractLsb' 8 24) (din.extractLsb' 0 8)
  else .clear din

/-- The decoder of both formats. -/
def decode : CodeWord → Except DecodeError Instr
  | .cmd34 c => .ok (decodeCommand c)
  | .hdr32 w => decodeHeader w

/-- The format of a word given as a number of bits and a number: up to 32 bits a header word, up to 40 (34
in whole bytes) a command word (log entry 12). -/
def codeWordOf (nbits w : Nat) : Except DecodeError CodeWord :=
  if nbits ≤ 32 then
    if w < 2 ^ 32 then .ok (.hdr32 (BitVec.ofNat 32 w)) else .error (.bitsOutsideFormat nbits w)
  else if nbits ≤ 40 then
    if w < 2 ^ 34 then .ok (.cmd34 (BitVec.ofNat 34 w)) else .error (.bitsOutsideFormat nbits w)
  else .error (.unknownLength nbits)

/-- The instruction read from an opcode-table word of `nbits` bits, numbered as the table numbers it. -/
def decodeTableWord (nbits w : Nat) : Option Instr :=
  match codeWordOf nbits w with
  | .ok cw =>
    match decode cw with
    | .ok i => some i
    | .error _ => none
  | .error _ => none

/-- The word of an instruction. The command code stands in bits 33:32 (R70, R71); a header class is its
window word (R77). -/
def encode : Instr → CodeWord
  | .nop ignored => .cmd34 (0b00#2 ++ ignored)
  | .decodeWord w => .cmd34 (0b01#2 ++ w)
  | .pushByte ignored b => .cmd34 (0b10#2 ++ (ignored ++ b))
  | .clear ignored => .cmd34 (0b11#2 ++ ignored)
  | .hdrRejSyncH0 w | .hdrRejSyncH1 w | .hdrRejSyncH2 w | .hdrRejSyncH3 w | .hdrRejSyncH4 w | .hdrRejSyncH5 w
  | .hdrRejSyncH6 w | .hdrRejSyncH7 w | .hdrRejSyncH8 w | .hdrRejSyncH9 w | .hdrRejSyncH10 w
  | .hdrRejVlVer0x w | .hdrRejVlVer10 w | .hdrRejVlVer11Lay1x w | .hdrRejVlVer11Lay00 w | .hdrRejBrFree w
  | .hdrRejBrReserved w | .hdrRejSrReservedBr1 w | .hdrRejSrReservedBr2 w | .hdrRejSrReservedBr3 w
  | .hdrRejSrReservedBr4 w | .hdrRejSrReservedBr5 w | .hdrRejSrReservedBr6 w | .hdrRejSrReservedBr7 w
  | .hdrRejSrReservedBr8 w | .hdrRejSrReservedBr9 w | .hdrRejSrReservedBr10 w | .hdrRejSrReservedBr11 w
  | .hdrRejSrReservedBr12 w | .hdrRejSrReservedBr13 w | .hdrRejSrReservedBr14 w | .hdrAcceptBr1Sr0 w
  | .hdrAcceptBr1Sr1 w | .hdrAcceptBr1Sr2 w | .hdrAcceptBr2Sr0 w | .hdrAcceptBr2Sr1 w | .hdrAcceptBr2Sr2 w
  | .hdrAcceptBr3Sr0 w | .hdrAcceptBr3Sr1 w | .hdrAcceptBr3Sr2 w | .hdrAcceptBr4Sr0 w | .hdrAcceptBr4Sr1 w
  | .hdrAcceptBr4Sr2 w | .hdrAcceptBr5Sr0 w | .hdrAcceptBr5Sr1 w | .hdrAcceptBr5Sr2 w | .hdrAcceptBr6Sr0 w
  | .hdrAcceptBr6Sr1 w | .hdrAcceptBr6Sr2 w | .hdrAcceptBr7Sr0 w | .hdrAcceptBr7Sr1 w | .hdrAcceptBr7Sr2 w
  | .hdrAcceptBr8Sr0 w | .hdrAcceptBr8Sr1 w | .hdrAcceptBr8Sr2 w | .hdrAcceptBr9Sr0 w | .hdrAcceptBr9Sr1 w
  | .hdrAcceptBr9Sr2 w | .hdrAcceptBr10Sr0 w | .hdrAcceptBr10Sr1 w | .hdrAcceptBr10Sr2 w
  | .hdrAcceptBr11Sr0 w | .hdrAcceptBr11Sr1 w | .hdrAcceptBr11Sr2 w | .hdrAcceptBr12Sr0 w
  | .hdrAcceptBr12Sr1 w | .hdrAcceptBr12Sr2 w | .hdrAcceptBr13Sr0 w | .hdrAcceptBr13Sr1 w
  | .hdrAcceptBr13Sr2 w | .hdrAcceptBr14Sr0 w | .hdrAcceptBr14Sr1 w | .hdrAcceptBr14Sr2 w => .hdr32 w

end Sys2Proof
end

