-- ==== Sys2Proof/Config.lean ====
section
/-! DEFINITION. The one parameter of the block a model may take as an argument: OFFSET_W, the width
of POS, FRAME_COUNT and R_OFFSET (spec/00_scope.md R7). It is held in `State.offsetW`, so that every
statement over all states is a statement over all widths (log entry 5). The parameters with fixed values stand
where they are used, in Machine/. The spec leaves no value of the block open, so there is no free
value here. -/

namespace Sys2Proof.Config

/-- The default of OFFSET_W: "32 by default; any integer >= 3" (00_scope.md R7). -/
def defaultOffsetW : Nat := 32

/-- The smallest OFFSET_W the spec allows (00_scope.md R7). -/
def minOffsetW : Nat := 3

end Sys2Proof.Config
end

