-- ==== Sys2Proof/Machine/State.lean ====
section
/-! DEFINITION. The state of the block: every element of the table of spec/10_state.md R22, the parameter
OFFSET_W and the pin samples still to come. Plain data. R_SPF has no storage: it is hardwired (R26) and
its read operation `rSpf` is in Machine/Ops.lean (log entry 10). -/

namespace Sys2Proof.Machine

/-- What the host drives on the pins in one clock cycle (10_state.md R23). `none` says that at least one
bit of the group is not driven to 0 or 1, an undefined input (60_exceptions.md R234). `din` is split at the only
place where commands read a part of it: `dinLo` = `din[7:0]`, `dinHi` = `din[31:8]` (30_encoding.md R72; log
entry 3). -/
structure Pins where
  rst : Option Bool
  cmd : Option (BitVec 2)
  dinHi : Option (BitVec 24)
  dinLo : Option Byte
  deriving DecidableEq, Repr

/-- The elements of 10_state.md R22, in its order but for the constant R_SPF, with two fields of the model's
own: `offsetW`, the parameter OFFSET_W (log entry 5), and `inputs`, the pin samples of the cycles to come, oldest
first (log entry 2). -/
structure State where
  /-- OFFSET_W, the width W of POS, FRAME_COUNT and R_OFFSET (00_scope.md R7). -/
  offsetW : Nat
  /-- R_VALID. -/
  rValid : Bool
  /-- R_NEW. -/
  rNew : Bool
  /-- R_SCAN. -/
  rScan : Bool
  /-- R_ACCEPT. -/
  rAccept : Bool
  /-- R_REASON. -/
  rReason : BitVec 3
  /-- R_VER, raw. -/
  rVer : BitVec 2
  /-- R_LAY, raw. -/
  rLay : BitVec 2
  /-- R_BR_IDX, raw. -/
  rBrIdx : BitVec 4
  /-- R_SR_IDX, raw. -/
  rSrIdx : BitVec 2
  /-- R_BITRATE, decoded. -/
  rBitrate : BitVec 9
  /-- R_SRATE, decoded. -/
  rSrate : BitVec 16
  /-- R_PADDED, decoded. -/
  rPadded : Bool
  /-- R_FSIZE, decoded. -/
  rFsize : BitVec 9
  /-- R_OFFSET, W bits, decoded (log entry 6). -/
  rOffset : Nat
  /-- POS, W bits (log entry 6). -/
  pos : Nat
  /-- FRAME_COUNT, W bits (log entry 6). -/
  frameCount : Nat
  /-- OVF. -/
  ovf : Bool
  /-- WIN, hidden, the most recent byte in `win[7:0]`. -/
  win : Word
  /-- FILL, hidden, values 0..4. -/
  fill : BitVec 3
  /-- The pin samples of the cycles to come, oldest first. -/
  inputs : List Pins
  deriving DecidableEq, Repr

/-- Why the machine stops with a fault: nothing does. "The block has no synchronous exception, fault or
trap" (60_exceptions.md R220), so the type has no constructor and a step has no faulting outcome. -/
inductive Fault where
  deriving DecidableEq, Repr

/-- Why a step has no meaning. -/
inductive Refusal where
  /-- An instruction without a meaning, rejected by its mnemonic; raised by a refused arm of `exec` (there is
  none). Safe: the machine stops. -/
  | notModelled (mnemonic : String)
  /-- Raised by `step` when `inputs` is empty: the host has driven no further cycle. Safe: the machine
  stops where the hardware would sample pins nobody has named (log entry 2). -/
  | noInput
  /-- Raised by `step` when `rst`, `cmd` or a part of `din` that the command reads is undefined (X or Z): "A model
  refuses such a cycle rather than pick a value" (60_exceptions.md R234). Safe (log entry 3). -/
  | undefinedInput
  deriving DecidableEq, Repr

/-- The state after a reset edge of a block with OFFSET_W = `w`: every element at its reset value
(10_state.md R22, 70_reset_and_hazards.md R250), no pin sample to come. -/
def State.resetOf (w : Nat) : State where
  offsetW := w
  rValid := false
  rNew := false
  rScan := false
  rAccept := false
  rReason := 0
  rVer := 0
  rLay := 0
  rBrIdx := 0
  rSrIdx := 0
  rBitrate := 0
  rSrate := 0
  rPadded := false
  rFsize := 0
  rOffset := 0
  pos := 0
  frameCount := 0
  ovf := false
  win := 0
  fill := 0
  inputs := []

/-- The machine right after reset, with the spec's default OFFSET_W (00_scope.md R7). -/
def State.reset : State := State.resetOf Config.defaultOffsetW

end Sys2Proof.Machine
end

