-- ==== Sys2Proof/Machine/Operands.lean ====
section
/-! DEFINITION. Operand assembly: the bit extractor (spec/40_bit_extractor.md), the header field slices
(spec/30_encoding.md R73), the window of four stream bytes (spec/20_memory.md R51), and what the pins of a
cycle ask for (spec/10_state.md R23, spec/30_encoding.md R70, R72). -/

namespace Sys2Proof.Machine

/-! ### The bit extractor, as the source states it -/

/-- The 8 bits of a byte, most significant first (40_bit_extractor.md R100). -/
def bitsOfByte (b : Byte) : List Bool :=
  [b.getLsbD 7, b.getLsbD 6, b.getLsbD 5, b.getLsbD 4, b.getLsbD 3, b.getLsbD 2, b.getLsbD 1, b.getLsbD 0]

/-- `bits_of`: "for each byte, in input order, emits its 8 bits most-significant first" (R100). -/
def bitsOf (bytes : List Byte) : List Bool := bytes.flatMap bitsOfByte

/-- `as_integer`: a bit slice as a base-2 number, leftmost bit highest, the empty slice 0 (R101). -/
def asInteger (bits : List Bool) : Nat := bits.foldl (fun n c => 2 * n + c.toNat) 0

/-- The four stream bytes of a window word, the first in `w[31:24]` (00_scope.md R9). -/
def bytesOfWord (w : Word) : List Byte :=
  [w.extractLsb' 24 8, w.extractLsb' 16 8, w.extractLsb' 8 8, w.extractLsb' 0 8]

/-- `field(w, a, b) = as_integer(H[a,b))`, where `H` is the header window's bits in stream order
(40_bit_extractor.md R102, 00_scope.md R8). -/
def field (w : Word) (a b : Nat) : Nat := asInteger (((bitsOf (bytesOfWord w)).take b).drop a)

/-! ### The slices the hardware wires (R102) -/

/-- The sync field `H[0,11)` = `w[31:21]` (30_encoding.md R73). -/
def hdrSync (w : Word) : BitVec 11 := w.extractLsb' 21 11

/-- The version code `H[11,13)` = `w[20:19]` (41_header_decode.md R123). -/
def hdrVer (w : Word) : BitVec 2 := w.extractLsb' 19 2

/-- The layer code `H[13,15)` = `w[18:17]` (41_header_decode.md R124). -/
def hdrLay (w : Word) : BitVec 2 := w.extractLsb' 17 2

/-- The bitrate index `H[16,20)` = `w[15:12]` (41_header_decode.md R127). -/
def hdrBrIdx (w : Word) : BitVec 4 := w.extractLsb' 12 4

/-- The sampling-rate index `H[20,22)` = `w[11:10]` (41_header_decode.md R129). -/
def hdrSrIdx (w : Word) : BitVec 2 := w.extractLsb' 10 2

/-- The padding flag `H[22]` = `w[9]` (41_header_decode.md R131). -/
def hdrPadded (w : Word) : Bool := w.getLsbD 9

/-- The first stream byte of a window, `w[31:24]`. -/
def firstByte (w : Word) : Byte := w.extractLsb' 24 8

/-- The window after one more stream byte: `(WIN[23:0] << 8) | b` (44_stream_scanner.md R193). -/
def shiftWindow (win : Word) (b : Byte) : Word := win.extractLsb' 0 24 ++ b

/-- The scanner's leading byte (00_scope.md R7, SYNC_BYTE). -/
def syncByte : Byte := 0xFF#8

/-! ### What a cycle's pins ask for -/

/-- What the block does with a cycle. -/
inductive Request where
  /-- `rst` = 1: a reset edge (70_reset_and_hazards.md R250, R251). -/
  | reset
  /-- `rst` = 0: the command to run. -/
  | run (i : Instr)
  /-- An input that the host must define is undefined (60_exceptions.md R234). -/
  | undefined
  deriving DecidableEq, Repr

/-- The command word `{cmd, din}` when every part of `din` that the command reads is defined. NOP and CLEAR
read none of it, PUSH_BYTE reads `din[7:0]`, DECODE_WORD all 32 bits (20_memory.md R54). Where an unread part is
undefined its place in the word is filled with zeros, which no command reads (log entry 4). -/
def commandWord (cmd : BitVec 2) (dinHi : Option (BitVec 24)) (dinLo : Option Byte) : Option (BitVec 34) :=
  let word := cmd ++ (dinHi.getD 0 ++ dinLo.getD 0)
  if cmd = 0b00#2 ∨ cmd = 0b11#2 then some word
  else if cmd = 0b10#2 then (if dinLo.isSome then some word else none)
  else if dinHi.isSome ∧ dinLo.isSome then some word else none

/-- `rst` and `cmd` are defined in every cycle, a reset cycle included, or the cycle is refused (60_exceptions.md
R234). Reset dominates: whatever the values of `cmd` and `din`, it ignores them (70_reset_and_hazards.md R251). With
`rst` = 0 the block executes one command (30_encoding.md R70), and what the command reads of `din` must be
defined (R234). -/
def Pins.request (p : Pins) : Request :=
  match p.rst, p.cmd with
  | none, _ => .undefined
  | some _, none => .undefined
  | some true, some _ => .reset
  | some false, some cmd =>
    match commandWord cmd p.dinHi p.dinLo with
    | none => .undefined
    | some c => .run (decodeCommand c)

/-- The cycle that presents a 34-bit command word with `rst` = 0 (30_encoding.md R71). -/
def Pins.ofCommand (c : BitVec 34) : Pins :=
  ⟨some false, some (c.extractLsb' 32 2), some (c.extractLsb' 8 24), some (c.extractLsb' 0 8)⟩

/-- The cycle that presents an encoded instruction: a command word as it is, a header word as the operand
of DECODE_WORD (log entry 1). -/
def Pins.ofCodeWord : CodeWord → Pins
  | .cmd34 c => Pins.ofCommand c
  | .hdr32 w => Pins.ofCommand (0b01#2 ++ w)

/-- The cycle that presents an instruction. -/
def Pins.ofInstr (i : Instr) : Pins := Pins.ofCodeWord (encode i)

/-- A reset cycle (30_encoding.md R80, `RESET`). -/
def Pins.resetCycle : Pins := ⟨some true, some 0, some 0, some 0⟩

/-- The cycle of an opcode-table word; a word of neither format leaves the pins undefined, so that no step
runs on it. -/
def Pins.ofTableWord (nbits w : Nat) : Pins :=
  match codeWordOf nbits w with
  | .ok cw => Pins.ofCodeWord cw
  | .error _ => ⟨none, none, none, none⟩

end Sys2Proof.Machine
end

