-- ==== Sys2Proof/Machine/HeaderDecode.lean ====
section
/-! DEFINITION. The header field decoder and the frame-size calculator: the pure functions `Decode`
(spec/41_header_decode.md R138) and `FrameSize` (spec/42_frame_size.md R150). -/

namespace Sys2Proof.Machine

/-- The rejection reasons, in the order in which the checks are made (41_header_decode.md R137, R138). -/
inductive Reason where
  | sync
  | versionLayer
  | bitrateFree
  | bitrateReserved
  | srateReserved
  deriving DecidableEq, Repr

/-- The HeaderDescriptor (41_header_decode.md R132); exact numbers, narrowed where a register is written
(log entry 8). -/
structure Descriptor where
  bitrateKbps : Nat
  samplingRateHz : Nat
  padded : Bool
  samplesPerFrame : Nat
  frameSizeBytes : Nat
  deriving DecidableEq, Repr

/-- What `Decode` returns (41_header_decode.md R120). -/
inductive DecodeResult where
  | accept (d : Descriptor)
  | reject (r : Reason)
  deriving DecidableEq, Repr

/-- The code of MPEG version "1" (30_encoding.md R75). UNVERIFIED: the spec gives the value and marks it as general
knowledge (log entry 9). -/
def ver1Code : BitVec 2 := 0b11#2

/-- The code of layer "III" (30_encoding.md R75). UNVERIFIED: the spec gives the value and marks it as general
knowledge (log entry 9). -/
def layer3Code : BitVec 2 := 0b01#2

/-- samples_per_frame, the constant 384 and not 1152 (10_state.md R26, 42_frame_size.md R156). -/
def samplesPerFrame : Nat := 384

/-- An entry of the bitrate table. -/
inductive BitrateEntry where
  | free
  | kbps (n : Nat)
  | reserved
  deriving DecidableEq, Repr

/-- The 16-entry bitrate table (41_header_decode.md R128). -/
def bitrateEntry (bri : BitVec 4) : BitrateEntry :=
  match bri.toNat with
  | 0 => .free
  | 1 => .kbps 32
  | 2 => .kbps 40
  | 3 => .kbps 48
  | 4 => .kbps 56
  | 5 => .kbps 64
  | 6 => .kbps 80
  | 7 => .kbps 96
  | 8 => .kbps 112
  | 9 => .kbps 128
  | 10 => .kbps 160
  | 11 => .kbps 192
  | 12 => .kbps 224
  | 13 => .kbps 256
  | 14 => .kbps 320
  | _ => .reserved

/-- The 4-entry sampling-rate table, index 3 reserved (41_header_decode.md R130). -/
def srateEntry (sri : BitVec 2) : Option Nat :=
  match sri.toNat with
  | 0 => some 44100
  | 1 => some 48000
  | 2 => some 32000
  | _ => none

/-- `FrameSize(kbps, hz, pad) = (48 * kbps * 1000) div hz + pad`, with 48 = samples_per_frame / 8
(42_frame_size.md R150, R151). -/
def frameSize (kbps hz : Nat) (pad : Bool) : Nat :=
  samplesPerFrame / 8 * kbps * 1000 / hz + pad.toNat

/-- The descriptor of an accepted window (41_header_decode.md R132). -/
def descriptor (kbps hz : Nat) (pad : Bool) : Descriptor where
  bitrateKbps := kbps
  samplingRateHz := hz
  padded := pad
  samplesPerFrame := samplesPerFrame
  frameSizeBytes := frameSize kbps hz pad

/-- `Decode(w)`: the checks in order, the first failure giving the reason (41_header_decode.md R138). -/
def decodeWindow (w : Word) : DecodeResult :=
  if hdrSync w ≠ 0x7FF#11 then .reject .sync
  else if ¬ (hdrVer w = ver1Code ∧ hdrLay w = layer3Code) then .reject .versionLayer
  else
    match bitrateEntry (hdrBrIdx w) with
    | .free => .reject .bitrateFree
    | .reserved => .reject .bitrateReserved
    | .kbps kbps =>
      match srateEntry (hdrSrIdx w) with
      | none => .reject .srateReserved
      | some hz => .accept (descriptor kbps hz (hdrPadded w))

end Sys2Proof.Machine
end

