-- ==== Sys2Proof/Machine/Flags.lean ====
section
/-! DEFINITION. The flags: the reason code, R_ACCEPT, the one-cycle R_NEW pulse, OVF and the `rec` output
(spec/10_state.md R24, R25; spec/41_header_decode.md R137). -/

namespace Sys2Proof.Machine

/-- The 3-bit code of a rejection reason (41_header_decode.md R137). -/
def Reason.code : Reason → BitVec 3
  | .sync => 1
  | .versionLayer => 2
  | .bitrateFree => 3
  | .bitrateReserved => 4
  | .srateReserved => 5

/-- R_REASON of a result: 0 for an acceptance (41_header_decode.md R137). -/
def DecodeResult.reasonCode : DecodeResult → BitVec 3
  | .accept _ => 0
  | .reject r => r.code

/-- R_ACCEPT of a result (10_state.md R25). -/
def DecodeResult.isAccept : DecodeResult → Bool
  | .accept _ => true
  | .reject _ => false

/-- `R_NEW <- 0` and nothing else: what every cycle without an evaluation does to the result registers
(10_state.md R24). -/
def State.endPulse (s : State) : State := { s with rNew := false }

/-- `OVF <- 1; R_NEW <- 0`: a byte dropped because POS is full (44_stream_scanner.md R194). -/
def State.dropByte (s : State) : State := { s with ovf := true, rNew := false }

/-- The output `rec = R_NEW & R_SCAN & R_ACCEPT` (10_state.md R24). -/
def State.recOut (s : State) : Bool := s.rNew && s.rScan && s.rAccept

end Sys2Proof.Machine
end

