-- ==== Sys2Proof/Machine/Ops.lean ====
section
/-! DEFINITION. The shared operations over the registers: the one procedure that writes a result
(spec/43_commands.md R170), the writes of the scan state (spec/44_stream_scanner.md R193), CLEAR's writes (R200),
the reset edge (spec/70_reset_and_hazards.md R250) and the output ports (spec/10_state.md R24). The block takes
no exception and returns from none (spec/60_exceptions.md R220, R224, R225), so there is no such operation. -/

namespace Sys2Proof.Machine

/-- A value written to a W-bit register (log entry 6). -/
def State.narrow (s : State) (v : Nat) : Nat := v % 2 ^ s.offsetW

/-- The largest value of POS, 2^W − 1 (44_stream_scanner.md R194). -/
def State.posMax (s : State) : Nat := 2 ^ s.offsetW - 1

/-- R_SPF reads 384 in every state and nothing writes it (10_state.md R26; log entry 10). -/
def State.rSpf (_ : State) : BitVec 9 := BitVec.ofNat 9 samplesPerFrame

/-- `WriteResult(res, w, off, scan)` (43_commands.md R170): the raw fields from the window whatever the
result is, the decoded fields from the descriptor or 0. -/
def State.writeResult (s : State) (res : DecodeResult) (w : Word) (off : Nat) (scan : Bool) : State :=
  let s := { s with
    rValid := true
    rNew := true
    rScan := scan
    rOffset := s.narrow off
    rVer := hdrVer w
    rLay := hdrLay w
    rBrIdx := hdrBrIdx w
    rSrIdx := hdrSrIdx w
    rAccept := res.isAccept
    rReason := res.reasonCode }
  match res with
  | .accept d => { s with
      rBitrate := BitVec.ofNat 9 d.bitrateKbps
      rSrate := BitVec.ofNat 16 d.samplingRateHz
      rPadded := d.padded
      rFsize := BitVec.ofNat 9 d.frameSizeBytes }
  | .reject _ => { s with rBitrate := 0, rSrate := 0, rPadded := false, rFsize := 0 }

/-- `fill' = min(FILL + 1, 4)` (44_stream_scanner.md R193). -/
def State.nextFill (s : State) : Nat := min (s.fill.toNat + 1) 4

/-- `WIN <- win'; FILL <- fill'; POS <- POS + 1` (44_stream_scanner.md R193). -/
def State.shiftIn (s : State) (b : Byte) : State :=
  { s with
    win := shiftWindow s.win b
    fill := BitVec.ofNat 3 s.nextFill
    pos := s.narrow (s.pos + 1) }

/-- Whether the byte completes a candidate: `fill' == 4 and win'[31:24] == 0xFF` (44_stream_scanner.md R192,
R193). -/
def State.completesCandidate (s : State) (b : Byte) : Bool :=
  s.nextFill == 4 && firstByte (shiftWindow s.win b) == syncByte

/-- `off = i − 3` in W-bit arithmetic, `i` the value of POS before the push (44_stream_scanner.md R193; log
entry 7). -/
def State.candidateOffset (s : State) : Nat := s.narrow (s.pos + 2 ^ s.offsetW - 3)

/-- `FRAME_COUNT <- FRAME_COUNT + 1` when the result is an acceptance (44_stream_scanner.md R193). -/
def State.countRecord (s : State) (res : DecodeResult) : State :=
  match res with
  | .accept _ => { s with frameCount := s.narrow (s.frameCount + 1) }
  | .reject _ => s

/-- CLEAR's writes, element by element (44_stream_scanner.md R200). -/
def State.clearAll (s : State) : State :=
  { s with
    pos := 0
    win := 0
    fill := 0
    frameCount := 0
    ovf := false
    rValid := false
    rNew := false
    rScan := false
    rAccept := false
    rReason := 0
    rVer := 0
    rLay := 0
    rBrIdx := 0
    rSrIdx := 0
    rBitrate := 0
    rSrate := 0
    rPadded := false
    rFsize := 0
    rOffset := 0 }

/-- A reset edge: every element takes its reset value (70_reset_and_hazards.md R250). The parameter and the
samples to come are not elements of the block. -/
def State.resetEdge (s : State) : State := { State.resetOf s.offsetW with inputs := s.inputs }

/-- The output ports (10_state.md R24). -/
structure Outputs where
  rValid : Bool
  rNew : Bool
  rScan : Bool
  rAccept : Bool
  rReason : BitVec 3
  rVer : BitVec 2
  rLay : BitVec 2
  rBrIdx : BitVec 4
  rSrIdx : BitVec 2
  rBitrate : BitVec 9
  rSrate : BitVec 16
  rPadded : Bool
  rSpf : BitVec 9
  rFsize : BitVec 9
  rOffset : Nat
  pos : Nat
  frameCount : Nat
  ovf : Bool
  recOut : Bool
  deriving DecidableEq, Repr

/-- What the ports show in a state: every element but WIN and FILL, and `rec` (10_state.md R24). -/
def State.outputs (s : State) : Outputs where
  rValid := s.rValid
  rNew := s.rNew
  rScan := s.rScan
  rAccept := s.rAccept
  rReason := s.rReason
  rVer := s.rVer
  rLay := s.rLay
  rBrIdx := s.rBrIdx
  rSrIdx := s.rSrIdx
  rBitrate := s.rBitrate
  rSrate := s.rSrate
  rPadded := s.rPadded
  rSpf := s.rSpf
  rFsize := s.rFsize
  rOffset := s.rOffset
  pos := s.pos
  frameCount := s.frameCount
  ovf := s.ovf
  recOut := s.recOut

/-- The record a state presents: the key R_OFFSET and the descriptor registers, when `rec` = 1
(44_stream_scanner.md R197). -/
def State.record (s : State) : Option (Nat × Descriptor) :=
  if s.recOut then
    some (s.rOffset, ⟨s.rBitrate.toNat, s.rSrate.toNat, s.rPadded, s.rSpf.toNat, s.rFsize.toNat⟩)
  else none

end Sys2Proof.Machine
end

