-- ==== Sys2Proof/Machine/Commands.lean ====
section
/-! DEFINITION. The word commands NOP and DECODE_WORD (spec/43_commands.md) and CLEAR
(spec/44_stream_scanner.md R200). -/

namespace Sys2Proof.Machine

/-- NOP: `R_NEW <- 0`, no other element changes (43_commands.md R171). -/
def execNop (s : State) : Host.Outcome State Fault Refusal :=
  .next s.endPulse

/-- DECODE_WORD: `WriteResult(Decode(w), w, off = 0, scan = 0)`, the scan state unchanged
(43_commands.md R172). -/
def execDecodeWord (w : Word) (s : State) : Host.Outcome State Fault Refusal :=
  .next (s.writeResult (decodeWindow w) w 0 false)

/-- CLEAR (44_stream_scanner.md R200). -/
def execClear (s : State) : Host.Outcome State Fault Refusal :=
  .next s.clearAll

end Sys2Proof.Machine
end

