-- ==== Sys2Proof/Machine/HeaderRows.lean ====
section
/-! DEFINITION. The meanings of the 73 header classes (spec/30_encoding.md R77). A header word is executed by the
cycle that presents it whole, a DECODE_WORD of that word, so its result is written with offset 0 and scan 0
(43_commands.md R172; log entry 1). Each meaning is written from its own row of the opcode table: the reason
of a rejection, or the bitrate, the sampling rate and the unpadded frame size of an acceptance. None goes
through `Decode`, so that the agreement R77 claims is a statement about two texts. -/

namespace Sys2Proof.Machine

/-- A row whose outcome is Reject(reason). -/
def evalRejectRow (reason : Reason) (w : Word) (s : State) : Host.Outcome State Fault Refusal :=
  .next (s.writeResult (.reject reason) w 0 false)

/-- A row whose outcome is Accept: the row's constants and `w[9]` give the descriptor (R77; the size is
"`size + w[9]`" in the table). -/
def evalAcceptRow (kbps hz size : Nat) (w : Word) (s : State) : Host.Outcome State Fault Refusal :=
  .next (s.writeResult
    (.accept ⟨kbps, hz, hdrPadded w, samplesPerFrame, size + (hdrPadded w).toNat⟩) w 0 false)

/-- HDR_REJ_SYNC_H0 (R121): Reject(SYNC). -/
def execHdrRejSyncH0 (w : Word) (s : State) : Host.Outcome State Fault Refusal :=
  evalRejectRow .sync w s

/-- HDR_REJ_SYNC_H1 (R121): Reject(SYNC). -/
def execHdrRejSyncH1 (w : Word) (s : State) : Host.Outcome State Fault Refusal :=
  evalRejectRow .sync w s

/-- HDR_REJ_SYNC_H2 (R121): Reject(SYNC). -/
def execHdrRejSyncH2 (w : Word) (s : State) : Host.Outcome State Fault Refusal :=
  evalRejectRow .sync w s

/-- HDR_REJ_SYNC_H3 (R121): Reject(SYNC). -/
def execHdrRejSyncH3 (w : Word) (s : State) : Host.Outcome State Fault Refusal :=
  evalRejectRow .sync w s

/-- HDR_REJ_SYNC_H4 (R121): Reject(SYNC). -/
def execHdrRejSyncH4 (w : Word) (s : State) : Host.Outcome State Fault Refusal :=
  evalRejectRow .sync w s

/-- HDR_REJ_SYNC_H5 (R121): Reject(SYNC). -/
def execHdrRejSyncH5 (w : Word) (s : State) : Host.Outcome State Fault Refusal :=
  evalRejectRow .sync w s

/-- HDR_REJ_SYNC_H6 (R121): Reject(SYNC). -/
def execHdrRejSyncH6 (w : Word) (s : State) : Host.Outcome State Fault Refusal :=
  evalRejectRow .sync w s

/-- HDR_REJ_SYNC_H7 (R121): Reject(SYNC). -/
def execHdrRejSyncH7 (w : Word) (s : State) : Host.Outcome State Fault Refusal :=
  evalRejectRow .sync w s

/-- HDR_REJ_SYNC_H8 (R121): Reject(SYNC). -/
def execHdrRejSyncH8 (w : Word) (s : State) : Host.Outcome State Fault Refusal :=
  evalRejectRow .sync w s

/-- HDR_REJ_SYNC_H9 (R121): Reject(SYNC). -/
def execHdrRejSyncH9 (w : Word) (s : State) : Host.Outcome State Fault Refusal :=
  evalRejectRow .sync w s

/-- HDR_REJ_SYNC_H10 (R121): Reject(SYNC). -/
def execHdrRejSyncH10 (w : Word) (s : State) : Host.Outcome State Fault Refusal :=
  evalRejectRow .sync w s

/-- HDR_REJ_VL_VER0X (R125): Reject(VERSION_LAYER). -/
def execHdrRejVlVer0x (w : Word) (s : State) : Host.Outcome State Fault Refusal :=
  evalRejectRow .versionLayer w s

/-- HDR_REJ_VL_VER10 (R125): Reject(VERSION_LAYER). -/
def execHdrRejVlVer10 (w : Word) (s : State) : Host.Outcome State Fault Refusal :=
  evalRejectRow .versionLayer w s

/-- HDR_REJ_VL_VER11_LAY1X (R125): Reject(VERSION_LAYER). -/
def execHdrRejVlVer11Lay1x (w : Word) (s : State) : Host.Outcome State Fault Refusal :=
  evalRejectRow .versionLayer w s

/-- HDR_REJ_VL_VER11_LAY00 (R125): Reject(VERSION_LAYER). -/
def execHdrRejVlVer11Lay00 (w : Word) (s : State) : Host.Outcome State Fault Refusal :=
  evalRejectRow .versionLayer w s

/-- HDR_REJ_BR_FREE (R128): Reject(BITRATE_FREE). -/
def execHdrRejBrFree (w : Word) (s : State) : Host.Outcome State Fault Refusal :=
  evalRejectRow .bitrateFree w s

/-- HDR_REJ_BR_RESERVED (R128): Reject(BITRATE_RESERVED). -/
def execHdrRejBrReserved (w : Word) (s : State) : Host.Outcome State Fault Refusal :=
  evalRejectRow .bitrateReserved w s

/-- HDR_REJ_SR_RESERVED_BR1 (R130): Reject(SRATE_RESERVED). -/
def execHdrRejSrReservedBr1 (w : Word) (s : State) : Host.Outcome State Fault Refusal :=
  evalRejectRow .srateReserved w s

/-- HDR_REJ_SR_RESERVED_BR2 (R130): Reject(SRATE_RESERVED). -/
def execHdrRejSrReservedBr2 (w : Word) (s : State) : Host.Outcome State Fault Refusal :=
  evalRejectRow .srateReserved w s

/-- HDR_REJ_SR_RESERVED_BR3 (R130): Reject(SRATE_RESERVED). -/
def execHdrRejSrReservedBr3 (w : Word) (s : State) : Host.Outcome State Fault Refusal :=
  evalRejectRow .srateReserved w s

/-- HDR_REJ_SR_RESERVED_BR4 (R130): Reject(SRATE_RESERVED). -/
def execHdrRejSrReservedBr4 (w : Word) (s : State) : Host.Outcome State Fault Refusal :=
  evalRejectRow .srateReserved w s

/-- HDR_REJ_SR_RESERVED_BR5 (R130): Reject(SRATE_RESERVED). -/
def execHdrRejSrReservedBr5 (w : Word) (s : State) : Host.Outcome State Fault Refusal :=
  evalRejectRow .srateReserved w s

/-- HDR_REJ_SR_RESERVED_BR6 (R130): Reject(SRATE_RESERVED). -/
def execHdrRejSrReservedBr6 (w : Word) (s : State) : Host.Outcome State Fault Refusal :=
  evalRejectRow .srateReserved w s

/-- HDR_REJ_SR_RESERVED_BR7 (R130): Reject(SRATE_RESERVED). -/
def execHdrRejSrReservedBr7 (w : Word) (s : State) : Host.Outcome State Fault Refusal :=
  evalRejectRow .srateReserved w s

/-- HDR_REJ_SR_RESERVED_BR8 (R130): Reject(SRATE_RESERVED). -/
def execHdrRejSrReservedBr8 (w : Word) (s : State) : Host.Outcome State Fault Refusal :=
  evalRejectRow .srateReserved w s

/-- HDR_REJ_SR_RESERVED_BR9 (R130): Reject(SRATE_RESERVED). -/
def execHdrRejSrReservedBr9 (w : Word) (s : State) : Host.Outcome State Fault Refusal :=
  evalRejectRow .srateReserved w s

/-- HDR_REJ_SR_RESERVED_BR10 (R130): Reject(SRATE_RESERVED). -/
def execHdrRejSrReservedBr10 (w : Word) (s : State) : Host.Outcome State Fault Refusal :=
  evalRejectRow .srateReserved w s

/-- HDR_REJ_SR_RESERVED_BR11 (R130): Reject(SRATE_RESERVED). -/
def execHdrRejSrReservedBr11 (w : Word) (s : State) : Host.Outcome State Fault Refusal :=
  evalRejectRow .srateReserved w s

/-- HDR_REJ_SR_RESERVED_BR12 (R130): Reject(SRATE_RESERVED). -/
def execHdrRejSrReservedBr12 (w : Word) (s : State) : Host.Outcome State Fault Refusal :=
  evalRejectRow .srateReserved w s

/-- HDR_REJ_SR_RESERVED_BR13 (R130): Reject(SRATE_RESERVED). -/
def execHdrRejSrReservedBr13 (w : Word) (s : State) : Host.Outcome State Fault Refusal :=
  evalRejectRow .srateReserved w s

/-- HDR_REJ_SR_RESERVED_BR14 (R130): Reject(SRATE_RESERVED). -/
def execHdrRejSrReservedBr14 (w : Word) (s : State) : Host.Outcome State Fault Refusal :=
  evalRejectRow .srateReserved w s

/-- HDR_ACCEPT_BR1_SR0 (R132): 32 kbps, 44100 Hz, 34 + `w[9]` bytes. -/
def execHdrAcceptBr1Sr0 (w : Word) (s : State) : Host.Outcome State Fault Refusal :=
  evalAcceptRow 32 44100 34 w s

/-- HDR_ACCEPT_BR1_SR1 (R132): 32 kbps, 48000 Hz, 32 + `w[9]` bytes. -/
def execHdrAcceptBr1Sr1 (w : Word) (s : State) : Host.Outcome State Fault Refusal :=
  evalAcceptRow 32 48000 32 w s

/-- HDR_ACCEPT_BR1_SR2 (R132): 32 kbps, 32000 Hz, 48 + `w[9]` bytes. -/
def execHdrAcceptBr1Sr2 (w : Word) (s : State) : Host.Outcome State Fault Refusal :=
  evalAcceptRow 32 32000 48 w s

/-- HDR_ACCEPT_BR2_SR0 (R132): 40 kbps, 44100 Hz, 43 + `w[9]` bytes. -/
def execHdrAcceptBr2Sr0 (w : Word) (s : State) : Host.Outcome State Fault Refusal :=
  evalAcceptRow 40 44100 43 w s

/-- HDR_ACCEPT_BR2_SR1 (R132): 40 kbps, 48000 Hz, 40 + `w[9]` bytes. -/
def execHdrAcceptBr2Sr1 (w : Word) (s : State) : Host.Outcome State Fault Refusal :=
  evalAcceptRow 40 48000 40 w s

/-- HDR_ACCEPT_BR2_SR2 (R132): 40 kbps, 32000 Hz, 60 + `w[9]` bytes. -/
def execHdrAcceptBr2Sr2 (w : Word) (s : State) : Host.Outcome State Fault Refusal :=
  evalAcceptRow 40 32000 60 w s

/-- HDR_ACCEPT_BR3_SR0 (R132): 48 kbps, 44100 Hz, 52 + `w[9]` bytes. -/
def execHdrAcceptBr3Sr0 (w : Word) (s : State) : Host.Outcome State Fault Refusal :=
  evalAcceptRow 48 44100 52 w s

/-- HDR_ACCEPT_BR3_SR1 (R132): 48 kbps, 48000 Hz, 48 + `w[9]` bytes. -/
def execHdrAcceptBr3Sr1 (w : Word) (s : State) : Host.Outcome State Fault Refusal :=
  evalAcceptRow 48 48000 48 w s

/-- HDR_ACCEPT_BR3_SR2 (R132): 48 kbps, 32000 Hz, 72 + `w[9]` bytes. -/
def execHdrAcceptBr3Sr2 (w : Word) (s : State) : Host.Outcome State Fault Refusal :=
  evalAcceptRow 48 32000 72 w s

/-- HDR_ACCEPT_BR4_SR0 (R132): 56 kbps, 44100 Hz, 60 + `w[9]` bytes. -/
def execHdrAcceptBr4Sr0 (w : Word) (s : State) : Host.Outcome State Fault Refusal :=
  evalAcceptRow 56 44100 60 w s

/-- HDR_ACCEPT_BR4_SR1 (R132): 56 kbps, 48000 Hz, 56 + `w[9]` bytes. -/
def execHdrAcceptBr4Sr1 (w : Word) (s : State) : Host.Outcome State Fault Refusal :=
  evalAcceptRow 56 48000 56 w s

/-- HDR_ACCEPT_BR4_SR2 (R132): 56 kbps, 32000 Hz, 84 + `w[9]` bytes. -/
def execHdrAcceptBr4Sr2 (w : Word) (s : State) : Host.Outcome State Fault Refusal :=
  evalAcceptRow 56 32000 84 w s

/-- HDR_ACCEPT_BR5_SR0 (R132): 64 kbps, 44100 Hz, 69 + `w[9]` bytes. -/
def execHdrAcceptBr5Sr0 (w : Word) (s : State) : Host.Outcome State Fault Refusal :=
  evalAcceptRow 64 44100 69 w s

/-- HDR_ACCEPT_BR5_SR1 (R132): 64 kbps, 48000 Hz, 64 + `w[9]` bytes. -/
def execHdrAcceptBr5Sr1 (w : Word) (s : State) : Host.Outcome State Fault Refusal :=
  evalAcceptRow 64 48000 64 w s

/-- HDR_ACCEPT_BR5_SR2 (R132): 64 kbps, 32000 Hz, 96 + `w[9]` bytes. -/
def execHdrAcceptBr5Sr2 (w : Word) (s : State) : Host.Outcome State Fault Refusal :=
  evalAcceptRow 64 32000 96 w s

/-- HDR_ACCEPT_BR6_SR0 (R132): 80 kbps, 44100 Hz, 87 + `w[9]` bytes. -/
def execHdrAcceptBr6Sr0 (w : Word) (s : State) : Host.Outcome State Fault Refusal :=
  evalAcceptRow 80 44100 87 w s

/-- HDR_ACCEPT_BR6_SR1 (R132): 80 kbps, 48000 Hz, 80 + `w[9]` bytes. -/
def execHdrAcceptBr6Sr1 (w : Word) (s : State) : Host.Outcome State Fault Refusal :=
  evalAcceptRow 80 48000 80 w s

/-- HDR_ACCEPT_BR6_SR2 (R132): 80 kbps, 32000 Hz, 120 + `w[9]` bytes. -/
def execHdrAcceptBr6Sr2 (w : Word) (s : State) : Host.Outcome State Fault Refusal :=
  evalAcceptRow 80 32000 120 w s

/-- HDR_ACCEPT_BR7_SR0 (R132): 96 kbps, 44100 Hz, 104 + `w[9]` bytes. -/
def execHdrAcceptBr7Sr0 (w : Word) (s : State) : Host.Outcome State Fault Refusal :=
  evalAcceptRow 96 44100 104 w s

/-- HDR_ACCEPT_BR7_SR1 (R132): 96 kbps, 48000 Hz, 96 + `w[9]` bytes. -/
def execHdrAcceptBr7Sr1 (w : Word) (s : State) : Host.Outcome State Fault Refusal :=
  evalAcceptRow 96 48000 96 w s

/-- HDR_ACCEPT_BR7_SR2 (R132): 96 kbps, 32000 Hz, 144 + `w[9]` bytes. -/
def execHdrAcceptBr7Sr2 (w : Word) (s : State) : Host.Outcome State Fault Refusal :=
  evalAcceptRow 96 32000 144 w s

/-- HDR_ACCEPT_BR8_SR0 (R132): 112 kbps, 44100 Hz, 121 + `w[9]` bytes. -/
def execHdrAcceptBr8Sr0 (w : Word) (s : State) : Host.Outcome State Fault Refusal :=
  evalAcceptRow 112 44100 121 w s

/-- HDR_ACCEPT_BR8_SR1 (R132): 112 kbps, 48000 Hz, 112 + `w[9]` bytes. -/
def execHdrAcceptBr8Sr1 (w : Word) (s : State) : Host.Outcome State Fault Refusal :=
  evalAcceptRow 112 48000 112 w s

/-- HDR_ACCEPT_BR8_SR2 (R132): 112 kbps, 32000 Hz, 168 + `w[9]` bytes. -/
def execHdrAcceptBr8Sr2 (w : Word) (s : State) : Host.Outcome State Fault Refusal :=
  evalAcceptRow 112 32000 168 w s

/-- HDR_ACCEPT_BR9_SR0 (R132): 128 kbps, 44100 Hz, 139 + `w[9]` bytes. -/
def execHdrAcceptBr9Sr0 (w : Word) (s : State) : Host.Outcome State Fault Refusal :=
  evalAcceptRow 128 44100 139 w s

/-- HDR_ACCEPT_BR9_SR1 (R132): 128 kbps, 48000 Hz, 128 + `w[9]` bytes. -/
def execHdrAcceptBr9Sr1 (w : Word) (s : State) : Host.Outcome State Fault Refusal :=
  evalAcceptRow 128 48000 128 w s

/-- HDR_ACCEPT_BR9_SR2 (R132): 128 kbps, 32000 Hz, 192 + `w[9]` bytes. -/
def execHdrAcceptBr9Sr2 (w : Word) (s : State) : Host.Outcome State Fault Refusal :=
  evalAcceptRow 128 32000 192 w s

/-- HDR_ACCEPT_BR10_SR0 (R132): 160 kbps, 44100 Hz, 174 + `w[9]` bytes. -/
def execHdrAcceptBr10Sr0 (w : Word) (s : State) : Host.Outcome State Fault Refusal :=
  evalAcceptRow 160 44100 174 w s

/-- HDR_ACCEPT_BR10_SR1 (R132): 160 kbps, 48000 Hz, 160 + `w[9]` bytes. -/
def execHdrAcceptBr10Sr1 (w : Word) (s : State) : Host.Outcome State Fault Refusal :=
  evalAcceptRow 160 48000 160 w s

/-- HDR_ACCEPT_BR10_SR2 (R132): 160 kbps, 32000 Hz, 240 + `w[9]` bytes. -/
def execHdrAcceptBr10Sr2 (w : Word) (s : State) : Host.Outcome State Fault Refusal :=
  evalAcceptRow 160 32000 240 w s

/-- HDR_ACCEPT_BR11_SR0 (R132): 192 kbps, 44100 Hz, 208 + `w[9]` bytes. -/
def execHdrAcceptBr11Sr0 (w : Word) (s : State) : Host.Outcome State Fault Refusal :=
  evalAcceptRow 192 44100 208 w s

/-- HDR_ACCEPT_BR11_SR1 (R132): 192 kbps, 48000 Hz, 192 + `w[9]` bytes. -/
def execHdrAcceptBr11Sr1 (w : Word) (s : State) : Host.Outcome State Fault Refusal :=
  evalAcceptRow 192 48000 192 w s

/-- HDR_ACCEPT_BR11_SR2 (R132): 192 kbps, 32000 Hz, 288 + `w[9]` bytes. -/
def execHdrAcceptBr11Sr2 (w : Word) (s : State) : Host.Outcome State Fault Refusal :=
  evalAcceptRow 192 32000 288 w s

/-- HDR_ACCEPT_BR12_SR0 (R132): 224 kbps, 44100 Hz, 243 + `w[9]` bytes. -/
def execHdrAcceptBr12Sr0 (w : Word) (s : State) : Host.Outcome State Fault Refusal :=
  evalAcceptRow 224 44100 243 w s

/-- HDR_ACCEPT_BR12_SR1 (R132): 224 kbps, 48000 Hz, 224 + `w[9]` bytes. -/
def execHdrAcceptBr12Sr1 (w : Word) (s : State) : Host.Outcome State Fault Refusal :=
  evalAcceptRow 224 48000 224 w s

/-- HDR_ACCEPT_BR12_SR2 (R132): 224 kbps, 32000 Hz, 336 + `w[9]` bytes. -/
def execHdrAcceptBr12Sr2 (w : Word) (s : State) : Host.Outcome State Fault Refusal :=
  evalAcceptRow 224 32000 336 w s

/-- HDR_ACCEPT_BR13_SR0 (R132): 256 kbps, 44100 Hz, 278 + `w[9]` bytes. -/
def execHdrAcceptBr13Sr0 (w : Word) (s : State) : Host.Outcome State Fault Refusal :=
  evalAcceptRow 256 44100 278 w s

/-- HDR_ACCEPT_BR13_SR1 (R132): 256 kbps, 48000 Hz, 256 + `w[9]` bytes. -/
def execHdrAcceptBr13Sr1 (w : Word) (s : State) : Host.Outcome State Fault Refusal :=
  evalAcceptRow 256 48000 256 w s

/-- HDR_ACCEPT_BR13_SR2 (R132): 256 kbps, 32000 Hz, 384 + `w[9]` bytes. -/
def execHdrAcceptBr13Sr2 (w : Word) (s : State) : Host.Outcome State Fault Refusal :=
  evalAcceptRow 256 32000 384 w s

/-- HDR_ACCEPT_BR14_SR0 (R132): 320 kbps, 44100 Hz, 348 + `w[9]` bytes. -/
def execHdrAcceptBr14Sr0 (w : Word) (s : State) : Host.Outcome State Fault Refusal :=
  evalAcceptRow 320 44100 348 w s

/-- HDR_ACCEPT_BR14_SR1 (R132): 320 kbps, 48000 Hz, 320 + `w[9]` bytes. -/
def execHdrAcceptBr14Sr1 (w : Word) (s : State) : Host.Outcome State Fault Refusal :=
  evalAcceptRow 320 48000 320 w s

/-- HDR_ACCEPT_BR14_SR2 (R132): 320 kbps, 32000 Hz, 480 + `w[9]` bytes. -/
def execHdrAcceptBr14Sr2 (w : Word) (s : State) : Host.Outcome State Fault Refusal :=
  evalAcceptRow 320 32000 480 w s

end Sys2Proof.Machine
end

