-- ==== Sys2Proof/Machine/Scanner.lean ====
section
/-! DEFINITION. The stream scanner's command PUSH_BYTE (spec/44_stream_scanner.md). -/

namespace Sys2Proof.Machine

/-- A complete candidate: its window is evaluated, its result written, and a record counted if it is accepted
(44_stream_scanner.md R193). -/
def State.evaluateCandidate (s : State) (b : Byte) : State :=
  let w := shiftWindow s.win b
  let res := decodeWindow w
  ((s.shiftIn b).writeResult res w s.candidateOffset true).countRecord res

/-- PUSH_BYTE (44_stream_scanner.md R193): a full POS drops the byte (R194); a push that completes no
candidate evaluates nothing (R198). -/
def execPushByte (b : Byte) (s : State) : Host.Outcome State Fault Refusal :=
  if s.pos = s.posMax then .next s.dropByte
  else if s.completesCandidate b then .next (s.evaluateCandidate b)
  else .next (s.shiftIn b).endPulse

end Sys2Proof.Machine
end

