-- ==== Sys2Proof/Machine/Dispatch.lean ====
section
/-! DEFINITION. One arm per constructor of `Instr`, each a direct call of its meaning. -/

namespace Sys2Proof.Machine

/-- The meaning of an instruction. -/
def exec (i : Instr) (s : State) : Host.Outcome State Fault Refusal :=
  match i with
  | .nop _ => Sys2Proof.Machine.execNop s
  | .decodeWord w => Sys2Proof.Machine.execDecodeWord w s
  | .pushByte _ b => Sys2Proof.Machine.execPushByte b s
  | .clear _ => Sys2Proof.Machine.execClear s
  | .hdrRejSyncH0 w => Sys2Proof.Machine.execHdrRejSyncH0 w s
  | .hdrRejSyncH1 w => Sys2Proof.Machine.execHdrRejSyncH1 w s
  | .hdrRejSyncH2 w => Sys2Proof.Machine.execHdrRejSyncH2 w s
  | .hdrRejSyncH3 w => Sys2Proof.Machine.execHdrRejSyncH3 w s
  | .hdrRejSyncH4 w => Sys2Proof.Machine.execHdrRejSyncH4 w s
  | .hdrRejSyncH5 w => Sys2Proof.Machine.execHdrRejSyncH5 w s
  | .hdrRejSyncH6 w => Sys2Proof.Machine.execHdrRejSyncH6 w s
  | .hdrRejSyncH7 w => Sys2Proof.Machine.execHdrRejSyncH7 w s
  | .hdrRejSyncH8 w => Sys2Proof.Machine.execHdrRejSyncH8 w s
  | .hdrRejSyncH9 w => Sys2Proof.Machine.execHdrRejSyncH9 w s
  | .hdrRejSyncH10 w => Sys2Proof.Machine.execHdrRejSyncH10 w s
  | .hdrRejVlVer0x w => Sys2Proof.Machine.execHdrRejVlVer0x w s
  | .hdrRejVlVer10 w => Sys2Proof.Machine.execHdrRejVlVer10 w s
  | .hdrRejVlVer11Lay1x w => Sys2Proof.Machine.execHdrRejVlVer11Lay1x w s
  | .hdrRejVlVer11Lay00 w => Sys2Proof.Machine.execHdrRejVlVer11Lay00 w s
  | .hdrRejBrFree w => Sys2Proof.Machine.execHdrRejBrFree w s
  | .hdrRejBrReserved w => Sys2Proof.Machine.execHdrRejBrReserved w s
  | .hdrRejSrReservedBr1 w => Sys2Proof.Machine.execHdrRejSrReservedBr1 w s
  | .hdrRejSrReservedBr2 w => Sys2Proof.Machine.execHdrRejSrReservedBr2 w s
  | .hdrRejSrReservedBr3 w => Sys2Proof.Machine.execHdrRejSrReservedBr3 w s
  | .hdrRejSrReservedBr4 w => Sys2Proof.Machine.execHdrRejSrReservedBr4 w s
  | .hdrRejSrReservedBr5 w => Sys2Proof.Machine.execHdrRejSrReservedBr5 w s
  | .hdrRejSrReservedBr6 w => Sys2Proof.Machine.execHdrRejSrReservedBr6 w s
  | .hdrRejSrReservedBr7 w => Sys2Proof.Machine.execHdrRejSrReservedBr7 w s
  | .hdrRejSrReservedBr8 w => Sys2Proof.Machine.execHdrRejSrReservedBr8 w s
  | .hdrRejSrReservedBr9 w => Sys2Proof.Machine.execHdrRejSrReservedBr9 w s
  | .hdrRejSrReservedBr10 w => Sys2Proof.Machine.execHdrRejSrReservedBr10 w s
  | .hdrRejSrReservedBr11 w => Sys2Proof.Machine.execHdrRejSrReservedBr11 w s
  | .hdrRejSrReservedBr12 w => Sys2Proof.Machine.execHdrRejSrReservedBr12 w s
  | .hdrRejSrReservedBr13 w => Sys2Proof.Machine.execHdrRejSrReservedBr13 w s
  | .hdrRejSrReservedBr14 w => Sys2Proof.Machine.execHdrRejSrReservedBr14 w s
  | .hdrAcceptBr1Sr0 w => Sys2Proof.Machine.execHdrAcceptBr1Sr0 w s
  | .hdrAcceptBr1Sr1 w => Sys2Proof.Machine.execHdrAcceptBr1Sr1 w s
  | .hdrAcceptBr1Sr2 w => Sys2Proof.Machine.execHdrAcceptBr1Sr2 w s
  | .hdrAcceptBr2Sr0 w => Sys2Proof.Machine.execHdrAcceptBr2Sr0 w s
  | .hdrAcceptBr2Sr1 w => Sys2Proof.Machine.execHdrAcceptBr2Sr1 w s
  | .hdrAcceptBr2Sr2 w => Sys2Proof.Machine.execHdrAcceptBr2Sr2 w s
  | .hdrAcceptBr3Sr0 w => Sys2Proof.Machine.execHdrAcceptBr3Sr0 w s
  | .hdrAcceptBr3Sr1 w => Sys2Proof.Machine.execHdrAcceptBr3Sr1 w s
  | .hdrAcceptBr3Sr2 w => Sys2Proof.Machine.execHdrAcceptBr3Sr2 w s
  | .hdrAcceptBr4Sr0 w => Sys2Proof.Machine.execHdrAcceptBr4Sr0 w s
  | .hdrAcceptBr4Sr1 w => Sys2Proof.Machine.execHdrAcceptBr4Sr1 w s
  | .hdrAcceptBr4Sr2 w => Sys2Proof.Machine.execHdrAcceptBr4Sr2 w s
  | .hdrAcceptBr5Sr0 w => Sys2Proof.Machine.execHdrAcceptBr5Sr0 w s
  | .hdrAcceptBr5Sr1 w => Sys2Proof.Machine.execHdrAcceptBr5Sr1 w s
  | .hdrAcceptBr5Sr2 w => Sys2Proof.Machine.execHdrAcceptBr5Sr2 w s
  | .hdrAcceptBr6Sr0 w => Sys2Proof.Machine.execHdrAcceptBr6Sr0 w s
  | .hdrAcceptBr6Sr1 w => Sys2Proof.Machine.execHdrAcceptBr6Sr1 w s
  | .hdrAcceptBr6Sr2 w => Sys2Proof.Machine.execHdrAcceptBr6Sr2 w s
  | .hdrAcceptBr7Sr0 w => Sys2Proof.Machine.execHdrAcceptBr7Sr0 w s
  | .hdrAcceptBr7Sr1 w => Sys2Proof.Machine.execHdrAcceptBr7Sr1 w s
  | .hdrAcceptBr7Sr2 w => Sys2Proof.Machine.execHdrAcceptBr7Sr2 w s
  | .hdrAcceptBr8Sr0 w => Sys2Proof.Machine.execHdrAcceptBr8Sr0 w s
  | .hdrAcceptBr8Sr1 w => Sys2Proof.Machine.execHdrAcceptBr8Sr1 w s
  | .hdrAcceptBr8Sr2 w => Sys2Proof.Machine.execHdrAcceptBr8Sr2 w s
  | .hdrAcceptBr9Sr0 w => Sys2Proof.Machine.execHdrAcceptBr9Sr0 w s
  | .hdrAcceptBr9Sr1 w => Sys2Proof.Machine.execHdrAcceptBr9Sr1 w s
  | .hdrAcceptBr9Sr2 w => Sys2Proof.Machine.execHdrAcceptBr9Sr2 w s
  | .hdrAcceptBr10Sr0 w => Sys2Proof.Machine.execHdrAcceptBr10Sr0 w s
  | .hdrAcceptBr10Sr1 w => Sys2Proof.Machine.execHdrAcceptBr10Sr1 w s
  | .hdrAcceptBr10Sr2 w => Sys2Proof.Machine.execHdrAcceptBr10Sr2 w s
  | .hdrAcceptBr11Sr0 w => Sys2Proof.Machine.execHdrAcceptBr11Sr0 w s
  | .hdrAcceptBr11Sr1 w => Sys2Proof.Machine.execHdrAcceptBr11Sr1 w s
  | .hdrAcceptBr11Sr2 w => Sys2Proof.Machine.execHdrAcceptBr11Sr2 w s
  | .hdrAcceptBr12Sr0 w => Sys2Proof.Machine.execHdrAcceptBr12Sr0 w s
  | .hdrAcceptBr12Sr1 w => Sys2Proof.Machine.execHdrAcceptBr12Sr1 w s
  | .hdrAcceptBr12Sr2 w => Sys2Proof.Machine.execHdrAcceptBr12Sr2 w s
  | .hdrAcceptBr13Sr0 w => Sys2Proof.Machine.execHdrAcceptBr13Sr0 w s
  | .hdrAcceptBr13Sr1 w => Sys2Proof.Machine.execHdrAcceptBr13Sr1 w s
  | .hdrAcceptBr13Sr2 w => Sys2Proof.Machine.execHdrAcceptBr13Sr2 w s
  | .hdrAcceptBr14Sr0 w => Sys2Proof.Machine.execHdrAcceptBr14Sr0 w s
  | .hdrAcceptBr14Sr1 w => Sys2Proof.Machine.execHdrAcceptBr14Sr1 w s
  | .hdrAcceptBr14Sr2 w => Sys2Proof.Machine.execHdrAcceptBr14Sr2 w s

end Sys2Proof.Machine
end

