-- ==== Sys2Proof/Machine/Step.lean ====
section
/-! DEFINITION. One step is one rising edge of `clk` (spec/10_state.md R23, spec/20_memory.md R57): the oldest pin
sample is taken and what it asks for is done. -/

namespace Sys2Proof.Machine

/-- The step. A cycle the host has not driven, or whose inputs are undefined, is refused
(60_exceptions.md R234; log entries 2 and 3). -/
def step (s : State) : Host.Outcome State Fault Refusal :=
  match s.inputs with
  | [] => .refused .noInput
  | p :: rest =>
    match p.request with
    | .undefined => .refused .undefinedInput
    | .reset => .next { s with inputs := rest }.resetEdge
    | .run i => exec i { s with inputs := rest }

/-- The state with one more cycle to come before the others, the one that presents the opcode-table word:
a command word on `{cmd, din}`, a header word on `din` with the code of DECODE_WORD (log entries 1 and 13). -/
def State.withFetchWord (s : State) (nbits w : Nat) : State :=
  { s with inputs := Pins.ofTableWord nbits w :: s.inputs }

end Sys2Proof.Machine
end

