-- ==== Sys2Proof/Machine/Reference.lean ====
section
/-! DEFINITION. The source's scan of a whole buffer, the reference function of spec/44_stream_scanner.md R191.
No instruction uses it. -/

namespace Sys2Proof.Machine

/-- `Window(S, i)`: the word of `S[i..i+3]`, defined only when `i + 4 <= len` (00_scope.md R12). -/
def windowAt (bytes : List Byte) (i : Nat) : Option Word :=
  match bytes.drop i with
  | b0 :: b1 :: b2 :: b3 :: _ => some (b0 ++ b1 ++ b2 ++ b3)
  | _ => none

/-- The entry `scan` makes at offset `i`: the byte there is 0xFF, four bytes are left, and `Decode` accepts their
window (44_stream_scanner.md R191, R192). -/
def scanEntry (bytes : List Byte) (i : Nat) : Option (Nat × Descriptor) :=
  if bytes[i]? = some syncByte then
    match windowAt bytes i with
    | some w =>
      match decodeWindow w with
      | .accept d => some (i, d)
      | .reject _ => none
    | none => none
  else none

/-- `scan(S)`, its table listed in increasing offsets (44_stream_scanner.md R191). -/
def scan (bytes : List Byte) : List (Nat × Descriptor) :=
  (List.range bytes.length).filterMap (scanEntry bytes)

end Sys2Proof.Machine
end

