-- ==== Sys2Proof/Machine/Trace.lean ====
section
/-! DEFINITION. What a host sees over several cycles: the states after each step, the records they present, and
the program syntax that makes cycles (spec/30_encoding.md R80, R81). Nothing here is state of the block. -/

namespace Sys2Proof.Machine

/-- The states after each of at most `k` steps, in order, ending at the first step that gives none. -/
def trace : Nat → State → List State
  | 0, _ => []
  | k + 1, s =>
    match step s with
    | .next t => t :: trace k t
    | .fault _ => []
    | .refused _ => []

/-- The records presented in the cycles after each of at most `k` steps, in order (44_stream_scanner.md R197):
the entries a host adds to its FrameTable (60_exceptions.md R235). -/
def records (k : Nat) (s : State) : List (Nat × Descriptor) := (trace k s).filterMap State.record

/-- The state after the last of those steps, `s` itself if there is none. -/
def finalState (k : Nat) (s : State) : State := (trace k s).getLastD s

/-- The bytes a list of commands pushes, in order. -/
def pushedBytes (is : List Instr) : List Byte :=
  is.filterMap fun i =>
    match i with
    | .pushByte _ b => some b
    | _ => none

/-- A line of a command program (30_encoding.md R80) or a pseudo-command (R81). -/
inductive Line where
  | nop
  | decodeWord (w : Word)
  | pushByte (b : Byte)
  | clear
  | reset
  | pushWord (w : Word)
  | pushBytes (bs : List Byte)
  | wait
  deriving DecidableEq, Repr

/-- The cycles of a line, with 0 in every part of `din` that is not read (30_encoding.md R80, R81). -/
def Line.cycles : Line → List Pins
  | .nop => [Pins.ofInstr (.nop 0)]
  | .decodeWord w => [Pins.ofInstr (.decodeWord w)]
  | .pushByte b => [Pins.ofInstr (.pushByte 0 b)]
  | .clear => [Pins.ofInstr (.clear 0)]
  | .reset => [Pins.resetCycle]
  | .pushWord w => (bytesOfWord w).map fun b => Pins.ofInstr (.pushByte 0 b)
  | .pushBytes bs => bs.map fun b => Pins.ofInstr (.pushByte 0 b)
  | .wait => [Pins.ofInstr (.nop 0)]

/-- The cycles of a program, one line after the other. -/
def cyclesOf (program : List Line) : List Pins := program.flatMap Line.cycles

end Sys2Proof.Machine
end

