-- ==== Sys2Proof/Safety.lean ====
section
/-! DEFINITION. The terms the statements use: which commands evaluate a window, which cycles are defined, and the
invariant of the states that can be reached from a reset edge. The forms here are written from the rules and
do not go through the meanings of Machine/. -/

namespace Sys2Proof.Machine

/-- The window after a push: `(WIN[23:0] << 8) | b` on 32 bits (44_stream_scanner.md R193). -/
def State.pushedWindow (s : State) (b : Byte) : Word := (s.win <<< 8) ||| b.setWidth 32

/-- The push of `b` completes a candidate: `fill' == 4 and win'[31:24] == 0xFF` (44_stream_scanner.md R193). -/
def State.candidate (s : State) (b : Byte) : Prop :=
  min (s.fill.toNat + 1) 4 = 4 ∧ (s.pushedWindow b).toNat / 2 ^ 24 = 255

/-- The command evaluates a window in this state (00_scope.md glossary; a header class is run by a DECODE_WORD,
log entry 1). -/
def evaluates (i : Instr) (s : State) : Prop :=
  match i with
  | .nop _ => False
  | .clear _ => False
  | .pushByte _ b => s.pos ≠ 2 ^ s.offsetW - 1 ∧ s.candidate b
  | _ => True

/-- The instruction is CLEAR. -/
def isClear (i : Instr) : Bool :=
  match i with
  | .clear _ => true
  | _ => false

/-- The instruction is PUSH_BYTE. -/
def isPush (i : Instr) : Bool :=
  match i with
  | .pushByte _ _ => true
  | _ => false

/-- The host has done its duty in the cycle: `rst` and `cmd` are defined, in a reset cycle too, and with `rst` = 0
what the command consumes of `din` is (60_exceptions.md R234, 20_memory.md R54). -/
def Pins.defined (p : Pins) : Prop :=
  (p.rst = some true ∧ p.cmd.isSome) ∨
    (p.rst = some false ∧
      (p.cmd = some 0b00#2 ∨ p.cmd = some 0b11#2 ∨ (p.cmd = some 0b10#2 ∧ p.dinLo.isSome) ∨
        (p.cmd = some 0b01#2 ∧ p.dinHi.isSome ∧ p.dinLo.isSome)))

/-- The cycle neither resets nor clears the block. -/
def Pins.keepsStream (p : Pins) : Prop :=
  p.rst ≠ some true ∧ p.cmd ≠ some 0b11#2

/-- What holds in every state reachable from a reset edge of a block with OFFSET_W >= 3. -/
structure State.Inv (s : State) : Prop where
  /-- OFFSET_W is at least 3 (00_scope.md R7). -/
  width : Config.minOffsetW ≤ s.offsetW
  /-- POS is a W-bit value (10_state.md R22). -/
  posFits : s.pos < 2 ^ s.offsetW
  /-- FILL = min(bytes pushed, 4), so FILL <= 4 (10_state.md R22, R27). -/
  fillIsMin : s.fill.toNat = min s.pos 4
  /-- Above the bytes pushed, WIN holds zeros (93_implementation_defined.md U10). -/
  winIsFresh : s.win.toNat < 2 ^ (8 * s.fill.toNat)
  /-- FRAME_COUNT <= POS − 3 whenever it is non-zero (44_stream_scanner.md R201). -/
  countBound : s.frameCount = 0 ∨ s.frameCount + 3 ≤ s.pos
  /-- R_OFFSET + 4 <= POS when R_SCAN = 1 and R_VALID = 1 (10_state.md R27). -/
  offsetBound : s.rValid = true → s.rScan = true → s.rOffset + 4 ≤ s.pos
  /-- R_OFFSET is 0 after DECODE_WORD (10_state.md R22). -/
  offsetOfWord : s.rScan = false → s.rOffset = 0
  /-- OVF is set only with POS full (44_stream_scanner.md R194). -/
  ovfMeansFull : s.ovf = true → s.pos = 2 ^ s.offsetW - 1
  /-- A new result is a valid one (10_state.md R22, R24). -/
  newIsValid : s.rNew = true → s.rValid = true
  /-- Before the first evaluation every result register is 0 (10_state.md R22). -/
  beforeFirst : s.rValid = false →
    s.rScan = false ∧ s.rAccept = false ∧ s.rReason = 0 ∧ s.rVer = 0 ∧ s.rLay = 0 ∧ s.rBrIdx = 0 ∧ s.rSrIdx = 0
  /-- After an evaluation R_ACCEPT is 1 exactly when R_REASON is 0, and codes 6 and 7 do not occur
  (41_header_decode.md R137). -/
  reasonCode : s.rReason.toNat ≤ 5 ∧ (s.rValid = true → (s.rAccept = true ↔ s.rReason = 0))
  /-- The decoded fields are 0 unless the last window was accepted (10_state.md R22, R25). -/
  rejectedIsZero : s.rAccept = false → s.rBitrate = 0 ∧ s.rSrate = 0 ∧ s.rPadded = false ∧ s.rFsize = 0
  /-- An accepted window has the accepted codes, and its descriptor is the one its indices select
  (41_header_decode.md R132). -/
  acceptedFits : s.rAccept = true →
    s.rVer = 3 ∧ s.rLay = 1 ∧ bitrateEntry s.rBrIdx = .kbps s.rBitrate.toNat ∧
      srateEntry s.rSrIdx = some s.rSrate.toNat ∧
      s.rFsize.toNat = 48 * s.rBitrate.toNat * 1000 / s.rSrate.toNat + s.rPadded.toNat

end Sys2Proof.Machine
end

