-- ==== Sys2Proof/Certificates/Slice0/Obligations.lean ====
section
/-! DEFINITION. The statements for the provers, each a formalisation of the rules of spec/ that its docstring
cites. Word operations stand here in the spec's own form (shifts, masks, quotients), not through the meanings. -/

open Sys2Proof Sys2Proof.Machine

/-! ### Tables of the spec the statements quote -/

/-- A rejecting row of format HDR32 and its reason code (spec/30_encoding.md R77, spec/41_header_decode.md R137). -/
structure Sys2Proof.Claims.RejectRow where
  make : Word → Instr
  code : BitVec 3

/-- An accepting row of format HDR32: its indices, bitrate, sampling rate and unpadded frame size
(spec/30_encoding.md R77, spec/42_frame_size.md R154). -/
structure Sys2Proof.Claims.AcceptRow where
  make : Word → Instr
  bri : BitVec 4
  sri : BitVec 2
  kbps : BitVec 9
  hz : BitVec 16
  size : BitVec 9

/-- The 31 rejecting rows. -/
def Sys2Proof.Claims.rejectRows : List Sys2Proof.Claims.RejectRow :=
  [⟨.hdrRejSyncH0, 1⟩,
   ⟨.hdrRejSyncH1, 1⟩,
   ⟨.hdrRejSyncH2, 1⟩,
   ⟨.hdrRejSyncH3, 1⟩,
   ⟨.hdrRejSyncH4, 1⟩,
   ⟨.hdrRejSyncH5, 1⟩,
   ⟨.hdrRejSyncH6, 1⟩,
   ⟨.hdrRejSyncH7, 1⟩,
   ⟨.hdrRejSyncH8, 1⟩,
   ⟨.hdrRejSyncH9, 1⟩,
   ⟨.hdrRejSyncH10, 1⟩] ++
  [⟨.hdrRejVlVer0x, 2⟩,
   ⟨.hdrRejVlVer10, 2⟩,
   ⟨.hdrRejVlVer11Lay1x, 2⟩,
   ⟨.hdrRejVlVer11Lay00, 2⟩,
   ⟨.hdrRejBrFree, 3⟩,
   ⟨.hdrRejBrReserved, 4⟩] ++
  [⟨.hdrRejSrReservedBr1, 5⟩,
   ⟨.hdrRejSrReservedBr2, 5⟩,
   ⟨.hdrRejSrReservedBr3, 5⟩,
   ⟨.hdrRejSrReservedBr4, 5⟩,
   ⟨.hdrRejSrReservedBr5, 5⟩,
   ⟨.hdrRejSrReservedBr6, 5⟩,
   ⟨.hdrRejSrReservedBr7, 5⟩,
   ⟨.hdrRejSrReservedBr8, 5⟩,
   ⟨.hdrRejSrReservedBr9, 5⟩,
   ⟨.hdrRejSrReservedBr10, 5⟩,
   ⟨.hdrRejSrReservedBr11, 5⟩,
   ⟨.hdrRejSrReservedBr12, 5⟩,
   ⟨.hdrRejSrReservedBr13, 5⟩,
   ⟨.hdrRejSrReservedBr14, 5⟩]

/-- The 42 accepting rows. -/
def Sys2Proof.Claims.acceptRows : List Sys2Proof.Claims.AcceptRow :=
  [⟨.hdrAcceptBr1Sr0, 1, 0, 32, 44100, 34⟩,
   ⟨.hdrAcceptBr2Sr0, 2, 0, 40, 44100, 43⟩,
   ⟨.hdrAcceptBr3Sr0, 3, 0, 48, 44100, 52⟩,
   ⟨.hdrAcceptBr4Sr0, 4, 0, 56, 44100, 60⟩,
   ⟨.hdrAcceptBr5Sr0, 5, 0, 64, 44100, 69⟩,
   ⟨.hdrAcceptBr6Sr0, 6, 0, 80, 44100, 87⟩,
   ⟨.hdrAcceptBr7Sr0, 7, 0, 96, 44100, 104⟩,
   ⟨.hdrAcceptBr8Sr0, 8, 0, 112, 44100, 121⟩,
   ⟨.hdrAcceptBr9Sr0, 9, 0, 128, 44100, 139⟩,
   ⟨.hdrAcceptBr10Sr0, 10, 0, 160, 44100, 174⟩,
   ⟨.hdrAcceptBr11Sr0, 11, 0, 192, 44100, 208⟩,
   ⟨.hdrAcceptBr12Sr0, 12, 0, 224, 44100, 243⟩,
   ⟨.hdrAcceptBr13Sr0, 13, 0, 256, 44100, 278⟩,
   ⟨.hdrAcceptBr14Sr0, 14, 0, 320, 44100, 348⟩] ++
  [⟨.hdrAcceptBr1Sr1, 1, 1, 32, 48000, 32⟩,
   ⟨.hdrAcceptBr2Sr1, 2, 1, 40, 48000, 40⟩,
   ⟨.hdrAcceptBr3Sr1, 3, 1, 48, 48000, 48⟩,
   ⟨.hdrAcceptBr4Sr1, 4, 1, 56, 48000, 56⟩,
   ⟨.hdrAcceptBr5Sr1, 5, 1, 64, 48000, 64⟩,
   ⟨.hdrAcceptBr6Sr1, 6, 1, 80, 48000, 80⟩,
   ⟨.hdrAcceptBr7Sr1, 7, 1, 96, 48000, 96⟩,
   ⟨.hdrAcceptBr8Sr1, 8, 1, 112, 48000, 112⟩,
   ⟨.hdrAcceptBr9Sr1, 9, 1, 128, 48000, 128⟩,
   ⟨.hdrAcceptBr10Sr1, 10, 1, 160, 48000, 160⟩,
   ⟨.hdrAcceptBr11Sr1, 11, 1, 192, 48000, 192⟩,
   ⟨.hdrAcceptBr12Sr1, 12, 1, 224, 48000, 224⟩,
   ⟨.hdrAcceptBr13Sr1, 13, 1, 256, 48000, 256⟩,
   ⟨.hdrAcceptBr14Sr1, 14, 1, 320, 48000, 320⟩] ++
  [⟨.hdrAcceptBr1Sr2, 1, 2, 32, 32000, 48⟩,
   ⟨.hdrAcceptBr2Sr2, 2, 2, 40, 32000, 60⟩,
   ⟨.hdrAcceptBr3Sr2, 3, 2, 48, 32000, 72⟩,
   ⟨.hdrAcceptBr4Sr2, 4, 2, 56, 32000, 84⟩,
   ⟨.hdrAcceptBr5Sr2, 5, 2, 64, 32000, 96⟩,
   ⟨.hdrAcceptBr6Sr2, 6, 2, 80, 32000, 120⟩,
   ⟨.hdrAcceptBr7Sr2, 7, 2, 96, 32000, 144⟩,
   ⟨.hdrAcceptBr8Sr2, 8, 2, 112, 32000, 168⟩,
   ⟨.hdrAcceptBr9Sr2, 9, 2, 128, 32000, 192⟩,
   ⟨.hdrAcceptBr10Sr2, 10, 2, 160, 32000, 240⟩,
   ⟨.hdrAcceptBr11Sr2, 11, 2, 192, 32000, 288⟩,
   ⟨.hdrAcceptBr12Sr2, 12, 2, 224, 32000, 336⟩,
   ⟨.hdrAcceptBr13Sr2, 13, 2, 256, 32000, 384⟩,
   ⟨.hdrAcceptBr14Sr2, 14, 2, 320, 32000, 480⟩]

/-- The kbps of bitrate indices 1 to 14 (spec/41_header_decode.md R128). -/
def Sys2Proof.Claims.kbpsList : List Nat :=
  [32, 40, 48, 56, 64, 80, 96, 112, 128, 160, 192, 224, 256, 320]

/-- The Hz of sampling-rate indices 0 to 2 (spec/41_header_decode.md R130). -/
def Sys2Proof.Claims.hzList : List Nat := [44100, 48000, 32000]

/-- The unpadded sizes of spec/42_frame_size.md R154, a row for each bitrate index from 1, a column for each
sampling-rate index. -/
def Sys2Proof.Claims.sizeTable : List (List Nat) :=
  [[34, 32, 48], [43, 40, 60], [52, 48, 72], [60, 56, 84], [69, 64, 96], [87, 80, 120], [104, 96, 144],
   [121, 112, 168], [139, 128, 192], [174, 160, 240], [208, 192, 288], [243, 224, 336], [278, 256, 384],
   [348, 320, 480]]

/-! ### Reset, CLEAR and the registers -/

/-- R250 (spec/70_reset_and_hazards.md): a cycle with `rst` = 1, whatever the values on `cmd` and `din` are, takes
every element of any state to its reset value, and R_SPF is 384 at all times. -/
def Obligations.ResetCycleSetsEveryElement : Prop :=
  (∀ (s : State) (cmd : BitVec 2) (hi : BitVec 24) (lo : Byte) (rest : List Pins),
    s.inputs = ⟨some true, some cmd, some hi, some lo⟩ :: rest → step s = .next
      { offsetW := s.offsetW, rValid := false, rNew := false, rScan := false, rAccept := false, rReason := 0,
        rVer := 0, rLay := 0, rBrIdx := 0, rSrIdx := 0, rBitrate := 0, rSrate := 0, rPadded := false, rFsize := 0,
        rOffset := 0, pos := 0, frameCount := 0, ovf := false, win := 0, fill := 0, inputs := rest }) ∧
    ∀ s : State, s.rSpf = 384

/-- R251 (spec/70_reset_and_hazards.md): cycles with `rst` = 1, one or more of them, run no command and leave the
reset state, whatever the values on `cmd` and `din` are. -/
def Obligations.HoldingResetGivesTheResetState : Prop :=
  ∀ (s : State) (held rest : List Pins), s.inputs = held ++ rest → held ≠ [] →
    (∀ p ∈ held, ∃ cmd hi lo, p = ⟨some true, some cmd, some hi, some lo⟩) →
    (trace held.length s).length = held.length ∧
      finalState held.length s = { State.resetOf s.offsetW with inputs := rest }

/-- `State.reset` is what a reset cycle leaves (R22 and R250, spec/10_state.md, spec/70_reset_and_hazards.md) of any
block with OFFSET_W = 32 when the host has driven nothing further. That `State.reset` takes the default of
OFFSET_W and no cycle to come is the model's choice (log entries 2, 5 and 13), and so is that `din` may be undefined in
the reset cycle (log entry 3). -/
def Obligations.StateResetIsWhatAResetCycleLeaves : Prop :=
  State.reset.offsetW = 32 ∧
    ∀ (s : State) (p : Pins), s.offsetW = 32 → s.inputs = [p] → p.rst = some true → p.cmd.isSome = true →
      step s = .next State.reset

/-- R200 (spec/44_stream_scanner.md): CLEAR, `cmd` = 0b11 with any value on `din`, sets every element but R_SPF to 0, from any
state; that is the reset state. -/
def Obligations.ClearSetsEveryElement : Prop :=
  ∀ (s : State),
    (∀ ignored : Word, exec (.clear ignored) s = .next
      { offsetW := s.offsetW, rValid := false, rNew := false, rScan := false, rAccept := false, rReason := 0,
        rVer := 0, rLay := 0, rBrIdx := 0, rSrIdx := 0, rBitrate := 0, rSrate := 0, rPadded := false, rFsize := 0,
        rOffset := 0, pos := 0, frameCount := 0, ovf := false, win := 0, fill := 0, inputs := s.inputs }) ∧
    (∀ (hi : BitVec 24) (lo : Byte) (rest : List Pins),
      s.inputs = ⟨some false, some 0b11#2, some hi, some lo⟩ :: rest →
        step s = .next { State.resetOf s.offsetW with inputs := rest }) ∧
    s.clearAll.rSpf = 384

/-- R26 (spec/10_state.md): R_SPF shows 384 in every state, so no command and no reset changes it. Beside it every
other port of R24: each shows its register, and `rec = R_NEW & R_SCAN & R_ACCEPT`. -/
def Obligations.OutputPortsShowTheRegisters : Prop :=
  ∀ s : State, s.outputs =
    { rValid := s.rValid, rNew := s.rNew, rScan := s.rScan, rAccept := s.rAccept, rReason := s.rReason,
      rVer := s.rVer, rLay := s.rLay, rBrIdx := s.rBrIdx, rSrIdx := s.rSrIdx, rBitrate := s.rBitrate,
      rSrate := s.rSrate, rPadded := s.rPadded, rSpf := 384, rFsize := s.rFsize, rOffset := s.rOffset,
      pos := s.pos, frameCount := s.frameCount, ovf := s.ovf, recOut := s.rNew && s.rScan && s.rAccept }

/-! ### The word commands -/

/-- R171 (spec/43_commands.md): NOP, `cmd` = 0b00 with any value on `din`, writes `R_NEW <- 0` and no other element, from any
state. -/
def Obligations.NopWritesOnlyRNew : Prop :=
  ∀ (s : State),
    (∀ ignored : Word, exec (.nop ignored) s = .next { s with rNew := false }) ∧
    ∀ (hi : BitVec 24) (lo : Byte) (rest : List Pins),
      s.inputs = ⟨some false, some 0b00#2, some hi, some lo⟩ :: rest → step s = .next { s with rNew := false, inputs := rest }

/-- The assignments of the procedure `WriteResult(res, w, off, scan)` (R170, spec/43_commands.md) on both kinds of
result, for every W-bit offset; every element it does not name, R_SPF among them, is as before. -/
def Obligations.WriteResultFollowsItsProcedure : Prop :=
  ∀ (s : State) (w : Word) (off : Nat) (scan : Bool), off < 2 ^ s.offsetW →
    (∀ d : Descriptor, s.writeResult (.accept d) w off scan =
      { s with
        rValid := true, rNew := true, rScan := scan, rAccept := true, rReason := 0, rOffset := off
        rVer := BitVec.ofNat 2 (w.toNat / 2 ^ 19), rLay := BitVec.ofNat 2 (w.toNat / 2 ^ 17)
        rBrIdx := BitVec.ofNat 4 (w.toNat / 2 ^ 12), rSrIdx := BitVec.ofNat 2 (w.toNat / 2 ^ 10)
        rBitrate := BitVec.ofNat 9 d.bitrateKbps, rSrate := BitVec.ofNat 16 d.samplingRateHz
        rPadded := d.padded, rFsize := BitVec.ofNat 9 d.frameSizeBytes }) ∧
    (∀ r : Reason, s.writeResult (.reject r) w off scan =
      { s with
        rValid := true, rNew := true, rScan := scan, rAccept := false, rReason := r.code, rOffset := off
        rVer := BitVec.ofNat 2 (w.toNat / 2 ^ 19), rLay := BitVec.ofNat 2 (w.toNat / 2 ^ 17)
        rBrIdx := BitVec.ofNat 4 (w.toNat / 2 ^ 12), rSrIdx := BitVec.ofNat 2 (w.toNat / 2 ^ 10)
        rBitrate := 0, rSrate := 0, rPadded := false, rFsize := 0 }) ∧
    ∀ res : DecodeResult, (s.writeResult res w off scan).rSpf = 384

/-- R172 (spec/43_commands.md): DECODE_WORD, `cmd` = 0b01, runs from every state on every word; it writes the
result registers from `Decode(w)` and the raw fields, R_OFFSET and R_SCAN with 0, and leaves the scan state as
it was. -/
def Obligations.DecodeWordWritesTheResult : Prop :=
  ∀ (s : State) (w : Word),
    (∀ d, decodeWindow w = .accept d →
      exec (.decodeWord w) s = .next
        { s with
          rValid := true, rNew := true, rScan := false, rAccept := true, rReason := 0, rOffset := 0
          rVer := BitVec.ofNat 2 (w.toNat / 2 ^ 19), rLay := BitVec.ofNat 2 (w.toNat / 2 ^ 17)
          rBrIdx := BitVec.ofNat 4 (w.toNat / 2 ^ 12), rSrIdx := BitVec.ofNat 2 (w.toNat / 2 ^ 10)
          rBitrate := BitVec.ofNat 9 d.bitrateKbps, rSrate := BitVec.ofNat 16 d.samplingRateHz
          rPadded := d.padded, rFsize := BitVec.ofNat 9 d.frameSizeBytes }) ∧
    (∀ r, decodeWindow w = .reject r →
      exec (.decodeWord w) s = .next
        { s with
          rValid := true, rNew := true, rScan := false, rAccept := false, rReason := r.code, rOffset := 0
          rVer := BitVec.ofNat 2 (w.toNat / 2 ^ 19), rLay := BitVec.ofNat 2 (w.toNat / 2 ^ 17)
          rBrIdx := BitVec.ofNat 4 (w.toNat / 2 ^ 12), rSrIdx := BitVec.ofNat 2 (w.toNat / 2 ^ 10)
          rBitrate := 0, rSrate := 0, rPadded := false, rFsize := 0 }) ∧
    ∀ (hi : BitVec 24) (lo : Byte) (rest : List Pins),
      s.inputs = ⟨some false, some 0b01#2, some hi, some lo⟩ :: rest → hi ++ lo = w →
        step s = exec (.decodeWord w) { s with inputs := rest }

/-- The last corner case of R172, which rests on R133 (spec/43_commands.md, spec/41_header_decode.md): two windows that
differ only in `w[16]` and `w[8:0]` leave every register with the same value. -/
def Obligations.DecodeWordIgnoresUninterpretedBits : Prop :=
  ∀ (s : State) (w w' : Word), w &&& 0xFFFEFE00#32 = w' &&& 0xFFFEFE00#32 →
    exec (.decodeWord w) s = exec (.decodeWord w') s

/-! ### The bit extractor -/

/-- R100 (spec/40_bit_extractor.md): `bits_of` gives 8 bits a byte, bit `8k + j` being bit `7 − j` of byte
k. -/
def Obligations.BitsOfEmitsMostSignificantFirst : Prop :=
  ∀ bytes : List Byte, (bitsOf bytes).length = 8 * bytes.length ∧
    ∀ (k j : Nat) (b : Byte), bytes[k]? = some b → j < 8 →
      (bitsOf bytes)[8 * k + j]? = some (b.getLsbD (7 - j))

/-- R101 (spec/40_bit_extractor.md): `as_integer` is the sum of `c_k * 2^(m-1-k)`, less than 2^m, 0 for the
empty slice. -/
def Obligations.AsIntegerIsTheBinaryValue : Prop :=
  ∀ bits : List Bool,
    asInteger bits = ∑ k ∈ Finset.range bits.length, (bits.getD k false).toNat * 2 ^ (bits.length - 1 - k) ∧
      asInteger bits < 2 ^ bits.length

/-- The spec's own deductions at the end of R100, from R8 and R9, and in R102, from R100, R101 and R9
(spec/40_bit_extractor.md): header bit p of a window is `H[p] = w[31-p]`; the field `H[a,b)` is `w[31-a : 32-b]`, and 0
when a = b; the slices the block wires are those fields. -/
def Obligations.FieldsAreWordSlices : Prop :=
  ∀ w : Word,
    (∀ p : Nat, p < 32 → (bitsOf (bytesOfWord w))[p]? = some (w.getLsbD (31 - p))) ∧
    (∀ a b : Nat, a ≤ b → b ≤ 32 → asInteger (((bitsOf (bytesOfWord w)).take b).drop a) = field w a b ∧
      field w a b = w.toNat / 2 ^ (32 - b) % 2 ^ (b - a)) ∧
      (hdrSync w).toNat = field w 0 11 ∧ (hdrVer w).toNat = field w 11 13 ∧ (hdrLay w).toNat = field w 13 15 ∧
      (hdrBrIdx w).toNat = field w 16 20 ∧ (hdrSrIdx w).toNat = field w 20 22 ∧
      (hdrPadded w).toNat = field w 22 23

/-! ### Decode and FrameSize -/

/-- R138 with R128, R130, R132 and R150 (spec/41_header_decode.md, spec/42_frame_size.md): the checks in order over
the source's fields, and the descriptor of an accepted window. The two accepted codes are the spec's, which marks
them as general knowledge (R75; log entry 9). -/
def Obligations.DecodeChecksInOrder : Prop :=
  ∀ w : Word,
    decodeWindow w =
      if field w 0 11 ≠ 2047 then .reject .sync
      else if ¬ (field w 11 13 = 3 ∧ field w 13 15 = 1) then .reject .versionLayer
      else if field w 16 20 = 0 then .reject .bitrateFree
      else if field w 16 20 = 15 then .reject .bitrateReserved
      else if field w 20 22 = 3 then .reject .srateReserved
      else
        let kbps := Sys2Proof.Claims.kbpsList.getD (field w 16 20 - 1) 0
        let hz := Sys2Proof.Claims.hzList.getD (field w 20 22) 0
        .accept ⟨kbps, hz, decide (field w 22 23 = 1), 384, 48 * kbps * 1000 / hz + field w 22 23⟩

/-- R137 and R222 (spec/41_header_decode.md, spec/60_exceptions.md): the code in R_REASON is that of the first failing
check in the order of R138, 0 for an acceptance, so never 6 or 7. -/
def Obligations.ReasonCodesNameTheFirstFailingCheck : Prop :=
  ∀ w : Word,
    (decodeWindow w).reasonCode =
      (if field w 0 11 ≠ 2047 then 1
      else if ¬ (field w 11 13 = 3 ∧ field w 13 15 = 1) then 2
      else if field w 16 20 = 0 then 3
      else if field w 16 20 = 15 then 4
      else if field w 20 22 = 3 then 5
      else 0) ∧
    ((decodeWindow w).reasonCode = 0 ↔ (decodeWindow w).isAccept = true) ∧
    ∀ s : State, ∃ t, exec (.decodeWord w) s = .next t ∧ t.rReason = (decodeWindow w).reasonCode ∧
      t.rReason ≠ 6 ∧ t.rReason ≠ 7

/-- R133 (spec/41_header_decode.md): `Decode(w) = Decode(w')` whenever w and w' differ only in bits 16 and 8..0. -/
def Obligations.DecodeIgnoresUninterpretedBits : Prop :=
  ∀ w w' : Word, w &&& 0xFFFEFE00#32 = w' &&& 0xFFFEFE00#32 → decodeWindow w = decodeWindow w'

/-- The spec's own deduction R134 from R121, R125, R128 and R130 (spec/41_header_decode.md): acceptance in closed form,
and the number of accepted words. -/
def Obligations.AcceptanceInClosedForm : Prop :=
  (∀ w : Word, (decodeWindow w).isAccept = true ↔
    (w &&& 0xFFFE0000#32 = 0xFFFA0000#32 ∧ (w.toNat / 2 ^ 12 % 16 ≠ 0 ∧ w.toNat / 2 ^ 12 % 16 ≠ 15) ∧
      w.toNat / 2 ^ 10 % 4 ≠ 3)) ∧
  Nat.card { w : Word // (decodeWindow w).isAccept = true } = 86016

/-- The spec's own deduction R135 (spec/41_header_decode.md): every accepted window begins with 0xFF and then 0xFA
or 0xFB. -/
def Obligations.AcceptedWindowsStartWithSyncBytes : Prop :=
  ∀ (w : Word) (d : Descriptor), decodeWindow w = .accept d →
    w.toNat / 2 ^ 24 = 0xFF ∧ (w.toNat / 2 ^ 16 % 256 = 0xFA ∨ w.toNat / 2 ^ 16 % 256 = 0xFB)

/-- The spec's own deduction R136 from R121, R128 and R130 (spec/41_header_decode.md): the source's three rejection
properties, regardless of the other fields. -/
def Obligations.SourceRejectionProperties : Prop :=
  ∀ w : Word,
    (w.toNat / 2 ^ 21 ≠ 0x7FF → (decodeWindow w).isAccept = false) ∧
    (w.toNat / 2 ^ 12 % 16 = 0 ∨ w.toNat / 2 ^ 12 % 16 = 15 → (decodeWindow w).isAccept = false) ∧
    (w.toNat / 2 ^ 10 % 4 = 3 → (decodeWindow w).isAccept = false)

/-- The spec's own deduction R154 from R150 (spec/42_frame_size.md): an accepted window's frame size is the table's cell
at its two indices, plus 1 if it is padded. -/
def Obligations.FrameSizesAreTheTable : Prop :=
  ∀ (w : Word) (d : Descriptor), decodeWindow w = .accept d →
    d.frameSizeBytes =
      (Sys2Proof.Claims.sizeTable.getD (w.toNat / 2 ^ 12 % 16 - 1) []).getD (w.toNat / 2 ^ 10 % 4) 0 +
        w.toNat / 2 ^ 9 % 2

/-- R152 and the spec's own deductions R151 and R153 (spec/42_frame_size.md): on every accepted window the divisor is
one of three non-zero rates, the numerator is below 2^24, the size lies in 32..481, and no register of the
result truncates its value. -/
def Obligations.AcceptedDescriptorsFitTheirRegisters : Prop :=
  ∀ (w : Word) (d : Descriptor), decodeWindow w = .accept d →
    (d.samplingRateHz = 44100 ∨ d.samplingRateHz = 48000 ∨ d.samplingRateHz = 32000) ∧
      48 * d.bitrateKbps * 1000 < 2 ^ 24 ∧ 32 ≤ d.frameSizeBytes ∧ d.frameSizeBytes ≤ 481 ∧
      d.samplesPerFrame = 384 ∧
      (BitVec.ofNat 9 d.bitrateKbps).toNat = d.bitrateKbps ∧
      (BitVec.ofNat 16 d.samplingRateHz).toNat = d.samplingRateHz ∧
      (BitVec.ofNat 9 d.frameSizeBytes).toNat = d.frameSizeBytes

/-! ### The header classes -/

/-- Each of the 31 rejecting rows of R77 (HDR_REJ_SYNC_H0 to H10, HDR_REJ_VL_VER0X, VER10, VER11_LAY1X, VER11_LAY00,
HDR_REJ_BR_FREE, HDR_REJ_BR_RESERVED, HDR_REJ_SR_RESERVED_BR1 to BR14; spec/30_encoding.md) completes from every
state, with its own reason code. That a header word runs as the operand of a DECODE_WORD is the model's reading
(log entry 1). -/
def Obligations.RejectingRowsComplete : Prop :=
  ∀ r ∈ Sys2Proof.Claims.rejectRows, ∀ (w : Word) (s : State),
    exec (r.make w) s = .next
      { s with
        rValid := true, rNew := true, rScan := false, rAccept := false, rReason := r.code, rOffset := 0
        rVer := BitVec.ofNat 2 (w.toNat / 2 ^ 19), rLay := BitVec.ofNat 2 (w.toNat / 2 ^ 17)
        rBrIdx := BitVec.ofNat 4 (w.toNat / 2 ^ 12), rSrIdx := BitVec.ofNat 2 (w.toNat / 2 ^ 10)
        rBitrate := 0, rSrate := 0, rPadded := false, rFsize := 0 }

/-- Each of the 42 accepting rows of R77 (HDR_ACCEPT_BR1_SR0 to HDR_ACCEPT_BR14_SR2; spec/30_encoding.md) completes from
every state on every window of its mask and match, with its own indices, bitrate, sampling rate and the size of
R154. That a header word runs as the operand of a DECODE_WORD is the model's reading (log entry 1). -/
def Obligations.AcceptingRowsComplete : Prop :=
  ∀ r ∈ Sys2Proof.Claims.acceptRows, ∀ (w : Word) (s : State),
    w &&& 0xFFFEFC00#32 = BitVec.ofNat 32 (0xFFFA0000 + r.bri.toNat * 0x1000 + r.sri.toNat * 0x400) →
    exec (r.make w) s = .next
      { s with
        rValid := true, rNew := true, rScan := false, rAccept := true, rReason := 0, rOffset := 0
        rVer := 3, rLay := 1, rBrIdx := r.bri, rSrIdx := r.sri
        rBitrate := r.kbps, rSrate := r.hz
        rPadded := decide (w.toNat / 2 ^ 9 % 2 = 1)
        rFsize := r.size + BitVec.ofNat 9 (w.toNat / 2 ^ 9 % 2) }

/-- The spec's own deduction at the end of R77 (spec/30_encoding.md): the map "gives exactly the outcome and reason" of
`Decode`. A header class executed on a window of its own does what DECODE_WORD does with that window, from
every state. That a header class is executed at all is the model's reading (log entry 1). -/
def Obligations.HeaderClassesAgreeWithDecode : Prop :=
  ∀ (i : Instr) (h : HeaderShape) (w : Word), i.header = some (h, w) → i.wellFormed = true →
    ∀ s : State, exec i s = exec (.decodeWord w) s

/-- The table of R77 (spec/30_encoding.md): its masks and matches by the rule's own formulas, 73 rows, and exactly one
of them matches any word. -/
def Obligations.HeaderRowsPartitionTheWords : Prop :=
  headerTable.map (fun r => (r.mask, r.value)) =
    (List.range 11).map (fun k => (BitVec.ofNat 32 (2 ^ 32 - 2 ^ (31 - k)), BitVec.ofNat 32 (2 ^ 32 - 2 ^ (32 - k)))) ++
    [(0xFFF00000#32, 0xFFE00000#32), (0xFFF80000#32, 0xFFF00000#32), (0xFFFC0000#32, 0xFFFC0000#32),
      (0xFFFE0000#32, 0xFFF80000#32), (0xFFFEF000#32, 0xFFFA0000#32), (0xFFFEF000#32, 0xFFFAF000#32)] ++
    (List.range 14).map (fun n => (0xFFFEFC00#32, BitVec.ofNat 32 (0xFFFA0000 + (n + 1) * 0x1000 + 0xC00))) ++
    (List.range 3).flatMap (fun j => (List.range 14).map fun n =>
      (0xFFFEFC00#32, BitVec.ofNat 32 (0xFFFA0000 + (n + 1) * 0x1000 + j * 0x400))) ∧
  headerTable.length = 73 ∧
  ∀ w : Word, (headerTable.filter (·.matches w)).length = 1

/-- What a rejection of an evaluated window leaves recorded (spec/60_exceptions.md R221, but for the offset, which the
statements of the commands give). For a header class this rests on the model's reading (log entry 1). -/
def Obligations.RejectionsAreRecorded : Prop :=
  ∀ (i : Instr) (s t : State), i.wellFormed = true → evaluates i s → exec i s = .next t → t.rAccept = false →
    1 ≤ t.rReason.toNat ∧ t.rReason.toNat ≤ 5 ∧
      t.rBitrate = 0 ∧ t.rSrate = 0 ∧ t.rPadded = false ∧ t.rFsize = 0 ∧
      (t.rReason = 2 → ¬ (t.rVer = 0b11 ∧ t.rLay = 0b01)) ∧
      (t.rReason = 3 → t.rVer = 0b11 ∧ t.rLay = 0b01 ∧ t.rBrIdx = 0) ∧
      (t.rReason = 4 → t.rVer = 0b11 ∧ t.rLay = 0b01 ∧ t.rBrIdx = 15) ∧
      (t.rReason = 5 → t.rVer = 0b11 ∧ t.rLay = 0b01 ∧ t.rBrIdx ≠ 0 ∧ t.rBrIdx ≠ 15 ∧ t.rSrIdx = 3)

/-! ### The stream scanner -/

/-- R193 (spec/44_stream_scanner.md): PUSH_BYTE is `cmd` = 0b10 with `b` = `din[7:0]`, whatever the value of
`din[31:8]` is, and has
four ways, each a complete next state, from every state that meets the invariant. -/
def Obligations.PushByteFollowsItsPseudocode : Prop :=
  ∀ (s : State) (ignored : BitVec 24) (b : Byte), s.Inv →
    (∀ (hi : BitVec 24) (rest : List Pins), s.inputs = ⟨some false, some 0b10#2, some hi, some b⟩ :: rest →
      step s = exec (.pushByte hi b) { s with inputs := rest }) ∧
    (s.pos = 2 ^ s.offsetW - 1 →
      exec (.pushByte ignored b) s = .next { s with ovf := true, rNew := false }) ∧
    (s.pos ≠ 2 ^ s.offsetW - 1 → ¬ s.candidate b →
      exec (.pushByte ignored b) s = .next
        { s with
          win := s.pushedWindow b, fill := BitVec.ofNat 3 (min (s.fill.toNat + 1) 4), pos := s.pos + 1
          rNew := false }) ∧
    (s.pos ≠ 2 ^ s.offsetW - 1 → s.candidate b → ∀ d, decodeWindow (s.pushedWindow b) = .accept d →
      3 ≤ s.pos ∧
      exec (.pushByte ignored b) s = .next
        { s with
          win := s.pushedWindow b, fill := 4, pos := s.pos + 1, frameCount := s.frameCount + 1
          rValid := true, rNew := true, rScan := true, rAccept := true, rReason := 0, rOffset := s.pos - 3
          rVer := BitVec.ofNat 2 ((s.pushedWindow b).toNat / 2 ^ 19)
          rLay := BitVec.ofNat 2 ((s.pushedWindow b).toNat / 2 ^ 17)
          rBrIdx := BitVec.ofNat 4 ((s.pushedWindow b).toNat / 2 ^ 12)
          rSrIdx := BitVec.ofNat 2 ((s.pushedWindow b).toNat / 2 ^ 10)
          rBitrate := BitVec.ofNat 9 d.bitrateKbps, rSrate := BitVec.ofNat 16 d.samplingRateHz
          rPadded := d.padded, rFsize := BitVec.ofNat 9 d.frameSizeBytes }) ∧
    (s.pos ≠ 2 ^ s.offsetW - 1 → s.candidate b → ∀ r, decodeWindow (s.pushedWindow b) = .reject r →
      3 ≤ s.pos ∧
      exec (.pushByte ignored b) s = .next
        { s with
          win := s.pushedWindow b, fill := 4, pos := s.pos + 1
          rValid := true, rNew := true, rScan := true, rAccept := false, rReason := r.code, rOffset := s.pos - 3
          rVer := BitVec.ofNat 2 ((s.pushedWindow b).toNat / 2 ^ 19)
          rLay := BitVec.ofNat 2 ((s.pushedWindow b).toNat / 2 ^ 17)
          rBrIdx := BitVec.ofNat 4 ((s.pushedWindow b).toNat / 2 ^ 12)
          rSrIdx := BitVec.ofNat 2 ((s.pushedWindow b).toNat / 2 ^ 10)
          rBitrate := 0, rSrate := 0, rPadded := false, rFsize := 0 })

/-- R198 (spec/44_stream_scanner.md): from any state, a PUSH_BYTE that evaluates nothing writes no result register
and clears R_NEW. -/
def Obligations.NonEvaluatingPushKeepsTheResult : Prop :=
  ∀ (s t : State) (ignored : BitVec 24) (b : Byte), ¬ evaluates (.pushByte ignored b) s →
    exec (.pushByte ignored b) s = .next t →
    t.rNew = false ∧ t.rValid = s.rValid ∧ t.rScan = s.rScan ∧ t.rAccept = s.rAccept ∧ t.rReason = s.rReason ∧
      t.rVer = s.rVer ∧ t.rLay = s.rLay ∧ t.rBrIdx = s.rBrIdx ∧ t.rSrIdx = s.rSrIdx ∧ t.rBitrate = s.rBitrate ∧
      t.rSrate = s.rSrate ∧ t.rPadded = s.rPadded ∧ t.rFsize = s.rFsize ∧ t.rOffset = s.rOffset ∧
      t.frameCount = s.frameCount

/-- R194 and R238 (spec/44_stream_scanner.md, spec/60_exceptions.md): a PUSH_BYTE at POS = 2^W − 1 is dropped, sets OVF
and changes nothing else but R_NEW; once OVF is set, every instruction but CLEAR leaves it set and every PUSH_BYTE
is dropped the same way, so that none evaluates. For a header class this rests on the model's reading (log
entry 1). -/
def Obligations.OverflowLastsUntilClear : Prop :=
  (∀ (s : State) (ignored : BitVec 24) (b : Byte), s.pos = 2 ^ s.offsetW - 1 →
    exec (.pushByte ignored b) s = .next { s with ovf := true, rNew := false }) ∧
  ∀ (s t : State) (i : Instr), s.Inv → s.ovf = true → isClear i = false → exec i s = .next t →
    t.ovf = true ∧ t.pos = s.pos ∧ t.win = s.win ∧ t.fill = s.fill ∧ t.frameCount = s.frameCount ∧
      (isPush i = true → ¬ evaluates i s ∧ t = { s with rNew := false })

/-- R21 (spec/10_state.md): POS advances by exactly 1 on a PUSH_BYTE, whatever its outcome, but stays at 2^W − 1; CLEAR
and reset set it to 0, and no other instruction changes it. For a header class, and for a reset cycle with an
undefined `din`, this rests on the model's reading (log entries 1 and 3). -/
def Obligations.PosAdvancesByOnePerPush : Prop :=
  (∀ (s t : State) (i : Instr), s.Inv → exec i s = .next t →
    (isPush i = true → t.pos = min (s.pos + 1) (2 ^ s.offsetW - 1)) ∧ (isClear i = true → t.pos = 0) ∧
      (isPush i = false → isClear i = false → t.pos = s.pos)) ∧
  ∀ (s t : State) (p : Pins) (rest : List Pins), s.inputs = p :: rest → p.rst = some true → step s = .next t →
    t.pos = 0

/-- The first corner case of R193, with R260 (spec/44_stream_scanner.md, spec/70_reset_and_hazards.md): a push
evaluates only at POS >= 3, so the first three pushes after a CLEAR or a reset never do, and no window joins bytes
from before it. -/
def Obligations.FirstThreePushesNeverEvaluate : Prop :=
  ∀ (s t : State) (ignored : BitVec 24) (b : Byte), s.Inv → s.pos < 3 → exec (.pushByte ignored b) s = .next t →
    t.rNew = false ∧ t.pos = s.pos + 1 ∧ t.fill.toNat = s.fill.toNat + 1

/-- The spec's own deduction at the end of R51 (spec/20_memory.md): DECODE_WORD w and pushing the four bytes of w
evaluate the same window. WIN is w after the four pushes of PUSH_WORD, and if w starts with 0xFF the result registers
are those of DECODE_WORD w but for R_SCAN and R_OFFSET. -/
def Obligations.PushWordAndDecodeWordSeeTheSameWindow : Prop :=
  ∀ (s : State) (w : Word), s.Inv → s.pos + 4 ≤ 2 ^ s.offsetW - 1 → s.inputs = (Line.pushWord w).cycles →
    (trace 4 s).length = 4 ∧ (finalState 4 s).win = w ∧
      (w.toNat / 2 ^ 24 = 0xFF → ∃ u : State, exec (.decodeWord w) s = .next u ∧
        (finalState 4 s).rNew = true ∧ (finalState 4 s).rScan = true ∧ (finalState 4 s).rOffset = s.pos ∧
          { (finalState 4 s).outputs with
            rScan := false, rOffset := 0, pos := s.pos, frameCount := s.frameCount, recOut := false } = u.outputs)

/-! ### Records -/

/-- From a state that meets the invariant, the next state presents a record (R24 and R197, spec/10_state.md,
spec/44_stream_scanner.md) exactly after a PUSH_BYTE that completes an accepted candidate, and the record is the
window's offset with the descriptor `Decode` gives. For a header class this rests on the model's reading (log
entry 1). -/
def Obligations.RecordsAreAcceptedScanWindows : Prop :=
  ∀ (s t : State) (i : Instr) (entry : Nat × Descriptor), s.Inv → exec i s = .next t →
    (t.record = some entry ↔
      ∃ ignored b d, i = .pushByte ignored b ∧ evaluates i s ∧ decodeWindow (s.pushedWindow b) = .accept d ∧
        entry = (s.pos - 3, d))

/-- FRAME_COUNT is the number of records presented (R201, spec/44_stream_scanner.md), counted from the last CLEAR or
reset when it starts at 0; and the spec's own deduction in R201 from R193 and R194: it is at most POS − 3 whenever it
is non-zero, and POS is below 2^W. That a cycle may leave an unread part of `din` undefined is log entry 3. -/
def Obligations.FrameCountCountsRecords : Prop :=
  ∀ (k : Nat) (s : State), s.Inv → (∀ p ∈ s.inputs.take k, p.keepsStream) →
    (finalState k s).frameCount = s.frameCount + (records k s).length ∧
      ((finalState k s).frameCount ≠ 0 → (finalState k s).frameCount + 3 ≤ (finalState k s).pos) ∧
      (finalState k s).pos < 2 ^ (finalState k s).offsetW

/-- The spec's own deduction R202 from R193 (spec/44_stream_scanner.md): record offsets are strictly increasing in the
order presented. That a cycle may leave an unread part of `din` undefined is log entry 3. -/
def Obligations.RecordOffsetsStrictlyIncrease : Prop :=
  ∀ (k : Nat) (s : State), s.Inv → (∀ p ∈ s.inputs.take k, p.keepsStream) →
    (records k s).Pairwise fun a b => a.1 < b.1

/-- The spec's own deduction R203 (spec/44_stream_scanner.md): after a CLEAR or reset, a stream with no 0xFF byte, with
any NOP or DECODE_WORD in between, makes no evaluation of its own and no record; FRAME_COUNT stays 0, and R_VALID
stays 0 if nothing but NOP is in between. A header class may stand in between too: it is run as a DECODE_WORD, which
is the model's reading (log entry 1). -/
def Obligations.NoSyncByteNoRecord : Prop :=
  ∀ (w : Nat) (is : List Instr) (rest : List Pins), Config.minOffsetW ≤ w →
    (∀ i ∈ is, isClear i = false) → (0xFF#8 ∉ pushedBytes is) →
    ∀ t ∈ trace is.length { State.resetOf w with inputs := is.map Pins.ofInstr ++ rest },
      t.record = none ∧ t.rScan = false ∧ t.frameCount = 0 ∧
        ((∀ i ∈ is, isPush i = true ∨ ∃ ignored, i = .nop ignored) → t.rValid = false)

/-- The spec's own deduction R196 (spec/44_stream_scanner.md): push a stream of at most 2^W − 1 bytes after a CLEAR or
reset, with any NOP or DECODE_WORD in between: the records presented are exactly the entries of the source's `scan`
(R191), in order, and FRAME_COUNT ends as their number. A header class may stand in between too: it is run as a
DECODE_WORD, which is the model's reading (log entry 1). -/
def Obligations.ScanAgreesWithTheSource : Prop :=
  ∀ (w : Nat) (is : List Instr) (rest : List Pins), Config.minOffsetW ≤ w →
    (∀ i ∈ is, isClear i = false) → (pushedBytes is).length ≤ 2 ^ w - 1 →
    records is.length { State.resetOf w with inputs := is.map Pins.ofInstr ++ rest } = scan (pushedBytes is) ∧
      (finalState is.length { State.resetOf w with inputs := is.map Pins.ofInstr ++ rest }).frameCount =
        (scan (pushedBytes is)).length

/-! ### The step -/

/-- R70 and R71 (spec/30_encoding.md): the four command codes, and a cycle with `rst` = 0 and defined pins runs the
command its 34-bit word `{cmd, din}` decodes to, on the state with that cycle taken. -/
def Obligations.StepRunsTheDecodedCommand : Prop :=
  (∀ (s : State) (cmd : BitVec 2) (hi : BitVec 24) (lo : Byte) (rest : List Pins) (i : Instr),
    s.inputs = ⟨some false, some cmd, some hi, some lo⟩ :: rest →
    decode (.cmd34 (cmd ++ (hi ++ lo))) = .ok i → step s = exec i { s with inputs := rest }) ∧
  ∀ (hi : BitVec 24) (lo : Byte),
    decode (.cmd34 (0b00#2 ++ (hi ++ lo))) = .ok (.nop (hi ++ lo)) ∧
      decode (.cmd34 (0b01#2 ++ (hi ++ lo))) = .ok (.decodeWord (hi ++ lo)) ∧
      decode (.cmd34 (0b10#2 ++ (hi ++ lo))) = .ok (.pushByte hi lo) ∧
      decode (.cmd34 (0b11#2 ++ (hi ++ lo))) = .ok (.clear (hi ++ lo))

/-- The cycle that presents a well-formed instruction (of any of the 77 rows) runs exactly that instruction, on the
state with the cycle taken. For a header class this is the model's reading of how it runs (log entry 1). -/
def Obligations.StepRunsEveryPresentedInstruction : Prop :=
  ∀ (s : State) (i : Instr) (rest : List Pins), i.wellFormed = true → s.inputs = Pins.ofInstr i :: rest →
    step s = exec i { s with inputs := rest }

/-- The step after `withFetchWord` runs the instruction the table word decodes to, and then the state's own cycles. How
a table word's length gives its format, that `withFetchWord` is the host driving one cycle, and that a header word is
run by a DECODE_WORD of it are the model's (log entries 12, 13 and 1). -/
def Obligations.FetchedTableWordRuns : Prop :=
  ∀ (s : State) (nbits w : Nat) (i : Instr), decodeTableWord nbits w = some i →
    step (s.withFetchWord nbits w) = exec i s

/-- DECODE_WORD takes all of `din`, PUSH_BYTE `din[7:0]` alone, and NOP, CLEAR and a reset cycle nothing of it (R72,
R251, spec/30_encoding.md, spec/70_reset_and_hazards.md), whatever is driven on the rest. That the rest may even be
undefined, and that the instruction's ignored operand does not matter then, is the model's reading (log entries 3
and 4). -/
def Obligations.UnreadOperandBitsHaveNoEffect : Prop :=
  ∀ (s : State) (rest : List Pins) (hi : Option (BitVec 24)) (lo : Option Byte) (h : BitVec 24) (b : Byte)
      (cmd : BitVec 2),
    step { s with inputs := ⟨some false, some 0b00#2, hi, lo⟩ :: rest } = exec (.nop 0) { s with inputs := rest } ∧
    step { s with inputs := ⟨some false, some 0b11#2, hi, lo⟩ :: rest } = exec (.clear 0) { s with inputs := rest } ∧
    step { s with inputs := ⟨some false, some 0b10#2, hi, some b⟩ :: rest } =
      exec (.pushByte 0 b) { s with inputs := rest } ∧
    step { s with inputs := ⟨some false, some 0b01#2, some h, some b⟩ :: rest } =
      exec (.decodeWord (h ++ b)) { s with inputs := rest } ∧
    step { s with inputs := ⟨some true, some cmd, hi, lo⟩ :: rest } =
      .next { State.resetOf s.offsetW with inputs := rest }

/-- A step answers a next state in every state, for every cycle in which `rst`, `cmd` and what the command reads of
`din` are defined (R220, spec/60_exceptions.md), and is refused otherwise, a reset cycle with an undefined `cmd`
included (R234). The refusals are the model's (log entries 2 and 3). -/
def Obligations.StepStopsOnlyOnUndefinedInputs : Prop :=
  ∀ s : State,
    (s.inputs = [] → step s = .refused .noInput) ∧
    ∀ (p : Pins) (rest : List Pins), s.inputs = p :: rest →
      (p.defined → ∃ t, step s = .next t ∧ t.inputs = rest ∧ t.offsetW = s.offsetW) ∧
      (¬ p.defined → step s = .refused .undefinedInput)

/-- Every instruction completes from every state (R220 and R227, spec/60_exceptions.md; for the header classes this
rests on the model's reading, log entry 1). -/
def Obligations.EveryInstructionCompletes : Prop :=
  ∀ (i : Instr) (s : State), ∃ t, exec i s = .next t ∧ t.inputs = s.inputs ∧ t.offsetW = s.offsetW

/-- The state after a cycle is a function of the state before it and the inputs of that cycle: the cycles still to
come have no influence on it (a sentence of R57, spec/20_memory.md). The list of cycles and their undefined parts are
the model's (log entries 2 and 3). -/
def Obligations.StepIgnoresLaterCycles : Prop :=
  ∀ (s t : State) (p : Pins) (rest rest' : List Pins), step { s with inputs := p :: rest } = .next t →
    t.inputs = rest ∧ step { s with inputs := p :: rest' } = .next { t with inputs := rest' }

/-- R_NEW is 1 after a cycle exactly when its command evaluated a window; a reset cycle leaves 0 (the last sentence of
R24, spec/10_state.md). That a cycle may leave an unread part of `din` undefined is log entry 3. -/
def Obligations.RNewMarksEvaluatingCycles : Prop :=
  ∀ (s t : State) (p : Pins) (rest : List Pins), s.inputs = p :: rest → step s = .next t →
    (t.rNew = true ↔ ∃ i, p.request = .run i ∧ evaluates i s)

/-- No instruction but PUSH_BYTE and CLEAR changes the scan state, in any state: NOP by R171, DECODE_WORD by sentences of
R54 and R172 (spec/20_memory.md, spec/43_commands.md), the header classes by the model's reading (log entry 1). -/
def Obligations.OnlyPushAndClearChangeTheScanState : Prop :=
  ∀ (s t : State) (i : Instr), isPush i = false → isClear i = false → exec i s = .next t →
    t.pos = s.pos ∧ t.win = s.win ∧ t.fill = s.fill ∧ t.frameCount = s.frameCount ∧ t.ovf = s.ovf ∧
      t.offsetW = s.offsetW ∧ t.inputs = s.inputs

/-- What an instruction that evaluates nothing leaves alone: every result register but R_NEW, unless it is CLEAR
(sentences of R25 and R257, spec/10_state.md, spec/70_reset_and_hazards.md). -/
def Obligations.ResultsHoldUntilTheNextEvaluation : Prop :=
  ∀ (s t : State) (i : Instr), ¬ evaluates i s → isClear i = false → exec i s = .next t →
    { t.outputs with rNew := s.rNew, pos := s.pos, ovf := s.ovf, recOut := s.recOut } = s.outputs ∧
      t.rNew = false

/-! ### Encodings -/

/-- For every well-formed instruction of all 77 rows, decoding its encoding gives it back, with every operand
(spec/30_encoding.md R71, R77). -/
def Obligations.DecodeOfEncodeIsIdentity : Prop :=
  ∀ i : Instr, i.wellFormed = true → decode (encode i) = .ok i

/-- Every word of both formats decodes to a well-formed instruction that encodes to it: no code is reserved or
illegal (spec/30_encoding.md R77, R78). -/
def Obligations.EveryWordDecodes : Prop :=
  ∀ c : CodeWord, ∃ i, decode c = .ok i ∧ i.wellFormed = true ∧ encode i = c

/-- Words written out from spec/30_encoding.md R70, R71 and R77 and spec/95_test_vectors.md T3 and T5.9. That a length of
40 bits means a command word and 32 bits a header word is the model's choice (log entry 12). -/
def Obligations.SpecWordsDecode : Prop :=
  decodeTableWord 40 0x012345678 = some (.nop 0x12345678#32) ∧
    decodeTableWord 40 0x1FFFB9044 = some (.decodeWord 0xFFFB9044#32) ∧
    decodeTableWord 40 0x2ABCDEFFF = some (.pushByte 0xABCDEF#24 0xFF#8) ∧
    decodeTableWord 40 0x300000000 = some (.clear 0#32) ∧
    decodeTableWord 32 0xFFDFFFFF = some (.hdrRejSyncH10 0xFFDFFFFF#32) ∧
    decodeTableWord 32 0xFFEB9044 = some (.hdrRejVlVer0x 0xFFEB9044#32) ∧
    decodeTableWord 32 0xFFFB0C44 = some (.hdrRejBrFree 0xFFFB0C44#32) ∧
    decodeTableWord 32 0xFFFAEE00 = some (.hdrRejSrReservedBr14 0xFFFAEE00#32) ∧
    decodeTableWord 32 0xFFFB9244 = some (.hdrAcceptBr9Sr0 0xFFFB9244#32)

/-! ### The invariant -/

/-- A block of any OFFSET_W >= 3 meets the invariant right after reset, whatever the host is about to drive; in
particular `State.reset` does. -/
def Obligations.ResetMeetsTheInvariant : Prop :=
  State.reset.Inv ∧
    ∀ (w : Nat) (inputs : List Pins), Config.minOffsetW ≤ w → { State.resetOf w with inputs := inputs }.Inv

/-- Every step from every state that meets the invariant gives a state that meets it (spec/10_state.md R22, R25 and
R27, spec/44_stream_scanner.md R193, R194 and R201). The cycle may leave an
unread part of `din` undefined (log entry 3). -/
def Obligations.StepKeepsTheInvariant : Prop :=
  ∀ s t : State, s.Inv → step s = .next t → t.Inv

/-- The spec's own deduction in R27 (spec/10_state.md): in every state reachable from a reset, FILL <= 4, FRAME_COUNT <=
POS, and R_OFFSET + 4 <= POS when R_SCAN = 1 and R_VALID = 1. The cycles may leave an unread part of `din` undefined
(log entry 3). -/
def Obligations.ReachableStatesMeetTheBounds : Prop :=
  ∀ (w k : Nat) (inputs : List Pins), Config.minOffsetW ≤ w →
    ∀ t ∈ trace k { State.resetOf w with inputs := inputs },
      t.fill.toNat ≤ 4 ∧ t.frameCount ≤ t.pos ∧ (t.rScan = true → t.rValid = true → t.rOffset + 4 ≤ t.pos)
end

