-- ==== Sys2Proof/Laws/Bits.lean ====
section
/-! SUPPORT. Slices of bit vectors: what the fields of a concatenation are, and a slice as a quotient and a
remainder, the form in which `omega` decides facts about the header fields. -/

namespace Sys2Proof.Laws

/-- The upper part of a concatenation. -/
theorem extract_high {n m : Nat} (x : BitVec n) (y : BitVec m) : (x ++ y).extractLsb' m n = x := by
  ext k hk
  simp [BitVec.getLsbD_append, BitVec.getLsbD_eq_getElem, hk]

/-- The lower part of a concatenation. -/
theorem extract_low {n m : Nat} (x : BitVec n) (y : BitVec m) : (x ++ y).extractLsb' 0 m = y := by
  ext k hk
  simp [BitVec.getLsbD_append, BitVec.getLsbD_eq_getElem, hk]

/-- A slice as a number. -/
theorem slice_toNat {m : Nat} (w : BitVec m) (lo len : Nat) :
    (w.extractLsb' lo len).toNat = w.toNat / 2 ^ lo % 2 ^ len := by
  simp [BitVec.extractLsb', Nat.shiftRight_eq_div_pow]

/-- A slice equals a value when the numbers are equal. -/
theorem slice_eq_iff {m len : Nat} (w : BitVec m) (lo : Nat) (v : BitVec len) :
    w.extractLsb' lo len = v ↔ w.toNat / 2 ^ lo % 2 ^ len = v.toNat := by
  rw [← BitVec.toNat_inj, slice_toNat]

/-- A slice as a value of its width. -/
theorem slice_eq_ofNat {m : Nat} (w : BitVec m) (lo len : Nat) :
    w.extractLsb' lo len = BitVec.ofNat len (w.toNat / 2 ^ lo) := by
  apply BitVec.eq_of_toNat_eq
  rw [slice_toNat, BitVec.toNat_ofNat]

/-- A bit as a number. -/
theorem bit_eq_decide {m : Nat} (w : BitVec m) (k : Nat) :
    w.getLsbD k = decide (w.toNat / 2 ^ k % 2 = 1) := by
  simp [BitVec.getLsbD, Nat.testBit_eq_decide_div_mod_eq]

end Sys2Proof.Laws
end

