-- ==== Sys2Proof/Laws/Decode.lean ====
section
/-! SUPPORT. The masks of the header table as quotients and remainders, and the agreement of the table's masks and
matches with the field description of each class (spec/30_encoding.md R77). -/

namespace Sys2Proof.Laws

/-- A number under a mask of `a` ones above `k` zeros. -/
theorem nat_and_ones (n a k : Nat) : n &&& ((2 ^ a - 1) * 2 ^ k) = n / 2 ^ k % 2 ^ a * 2 ^ k := by
  rw [← Nat.shiftLeft_eq, ← Nat.shiftLeft_eq, ← Nat.shiftRight_eq_div_pow]
  apply Nat.eq_of_testBit_eq
  intro i
  by_cases h : k ≤ i
  · simp [Nat.testBit_shiftLeft, Nat.testBit_shiftRight, h, Nat.testBit_two_pow_sub_one,
      Nat.testBit_mod_two_pow, Bool.and_comm]
  · simp [Nat.testBit_shiftLeft, h]

/-- A number under a mask of two runs of ones, the lower one of `b` ones above `k` zeros. -/
theorem nat_and_two_runs (n a j b k : Nat) (h : b + k ≤ j) :
    n &&& ((2 ^ a - 1) * 2 ^ j + (2 ^ b - 1) * 2 ^ k) = n / 2 ^ j % 2 ^ a * 2 ^ j + n / 2 ^ k % 2 ^ b * 2 ^ k := by
  have small : ∀ m, m < 2 ^ b → m * 2 ^ k < 2 ^ j := fun m hm =>
    calc m * 2 ^ k < 2 ^ b * 2 ^ k := Nat.mul_lt_mul_of_pos_right hm (Nat.two_pow_pos k)
      _ = 2 ^ (b + k) := (Nat.pow_add 2 b k).symm
      _ ≤ 2 ^ j := Nat.pow_le_pow_right (by decide) h
  have asOr : ∀ x m, m < 2 ^ b → x * 2 ^ j + m * 2 ^ k = x * 2 ^ j ||| m * 2 ^ k := fun x m hm => by
    have := Nat.shiftLeft_add_eq_or_of_lt (small m hm) x
    rwa [Nat.shiftLeft_eq] at this
  have hb := Nat.two_pow_pos b
  rw [asOr _ _ (Nat.sub_lt hb (by decide)), Nat.and_or_distrib_left, nat_and_ones, nat_and_ones,
    asOr _ _ (Nat.mod_lt _ hb)]

/-- A word under a mask of its upper `a` bits. -/
theorem and_prefix (w : Word) (a : Nat) (ha : a ≤ 32) :
    (w &&& BitVec.ofNat 32 ((2 ^ a - 1) * 2 ^ (32 - a))).toNat = w.toNat / 2 ^ (32 - a) * 2 ^ (32 - a) := by
  have split : 2 ^ 32 = 2 ^ a * 2 ^ (32 - a) := by rw [← Nat.pow_add]; congr 1; omega
  have low := Nat.two_pow_pos (32 - a)
  have fits : (2 ^ a - 1) * 2 ^ (32 - a) < 2 ^ 32 := by
    rw [split]
    exact Nat.mul_lt_mul_of_pos_right (Nat.sub_lt (Nat.two_pow_pos a) (by decide)) low
  have quot : w.toNat / 2 ^ (32 - a) < 2 ^ a := by
    rw [Nat.div_lt_iff_lt_mul low, ← split]; exact w.isLt
  rw [BitVec.toNat_and, BitVec.toNat_ofNat, Nat.mod_eq_of_lt fits, nat_and_ones, Nat.mod_eq_of_lt quot]

/-- A word under a mask of its upper 15 bits and of `b` bits above `k`. -/
theorem and_prefix_run (w : Word) (b k : Nat) (h : b + k ≤ 17) :
    (w &&& BitVec.ofNat 32 ((2 ^ 15 - 1) * 2 ^ 17 + (2 ^ b - 1) * 2 ^ k)).toNat =
      w.toNat / 2 ^ 17 * 2 ^ 17 + w.toNat / 2 ^ k % 2 ^ b * 2 ^ k := by
  have fits : (2 ^ b - 1) * 2 ^ k < 2 ^ 17 :=
    calc (2 ^ b - 1) * 2 ^ k < 2 ^ b * 2 ^ k :=
          Nat.mul_lt_mul_of_pos_right (Nat.sub_lt (Nat.two_pow_pos b) (by decide)) (Nat.two_pow_pos k)
      _ = 2 ^ (b + k) := (Nat.pow_add 2 b k).symm
      _ ≤ 2 ^ 17 := Nat.pow_le_pow_right (by decide) h
  have quot : w.toNat / 2 ^ 17 < 2 ^ 15 := by have := w.isLt; omega
  rw [BitVec.toNat_and, BitVec.toNat_ofNat, Nat.mod_eq_of_lt (by omega), nat_and_two_runs _ _ _ _ _ h,
    Nat.mod_eq_of_lt quot]

theorem and_80000000 (w : Word) : (w &&& 0x80000000#32).toNat = w.toNat / 2 ^ 31 * 2 ^ 31 := and_prefix
  w 1 (by decide)
theorem and_C0000000 (w : Word) : (w &&& 0xC0000000#32).toNat = w.toNat / 2 ^ 30 * 2 ^ 30 := and_prefix w 2 (by decide)
theorem and_E0000000 (w : Word) : (w &&& 0xE0000000#32).toNat = w.toNat / 2 ^ 29 * 2 ^ 29 := and_prefix w 3 (by decide)
theorem and_F0000000 (w : Word) : (w &&& 0xF0000000#32).toNat = w.toNat / 2 ^ 28 * 2 ^ 28 := and_prefix w 4 (by decide)
theorem and_F8000000 (w : Word) : (w &&& 0xF8000000#32).toNat = w.toNat / 2 ^ 27 * 2 ^ 27 := and_prefix w 5 (by decide)
theorem and_FC000000 (w : Word) : (w &&& 0xFC000000#32).toNat = w.toNat / 2 ^ 26 * 2 ^ 26 := and_prefix w 6 (by decide)
theorem and_FE000000 (w : Word) : (w &&& 0xFE000000#32).toNat = w.toNat / 2 ^ 25 * 2 ^ 25 := and_prefix w 7 (by decide)
theorem and_FF000000 (w : Word) : (w &&& 0xFF000000#32).toNat = w.toNat / 2 ^ 24 * 2 ^ 24 := and_prefix w 8 (by decide)
theorem and_FF800000 (w : Word) : (w &&& 0xFF800000#32).toNat = w.toNat / 2 ^ 23 * 2 ^ 23 := and_prefix w 9 (by decide)
theorem and_FFC00000 (w : Word) : (w &&& 0xFFC00000#32).toNat = w.toNat / 2 ^ 22 * 2 ^ 22 := and_prefix w 10 (by decide)
theorem and_FFE00000 (w : Word) : (w &&& 0xFFE00000#32).toNat = w.toNat / 2 ^ 21 * 2 ^ 21 := and_prefix w 11 (by decide)
theorem and_FFF00000 (w : Word) : (w &&& 0xFFF00000#32).toNat = w.toNat / 2 ^ 20 * 2 ^ 20 := and_prefix w 12 (by decide)
theorem and_FFF80000 (w : Word) : (w &&& 0xFFF80000#32).toNat = w.toNat / 2 ^ 19 * 2 ^ 19 := and_prefix w 13 (by decide)
theorem and_FFFC0000 (w : Word) : (w &&& 0xFFFC0000#32).toNat = w.toNat / 2 ^ 18 * 2 ^ 18 := and_prefix w 14 (by decide)
theorem and_FFFE0000 (w : Word) : (w &&& 0xFFFE0000#32).toNat = w.toNat / 2 ^ 17 * 2 ^ 17 := and_prefix w 15 (by decide)
theorem and_FFFEF000 (w : Word) :
    (w &&& 0xFFFEF000#32).toNat = w.toNat / 2 ^ 17 * 2 ^ 17 + w.toNat / 2 ^ 12 % 2 ^ 4 * 2 ^ 12 := and_prefix_run w 4 12 (by decide)
theorem and_FFFEFC00 (w : Word) :
    (w &&& 0xFFFEFC00#32).toNat = w.toNat / 2 ^ 17 * 2 ^ 17 + w.toNat / 2 ^ 10 % 2 ^ 6 * 2 ^ 10 := and_prefix_run w 6 10 (by decide)
theorem and_FFFEFE00 (w : Word) :
    (w &&& 0xFFFEFE00#32).toNat = w.toNat / 2 ^ 17 * 2 ^ 17 + w.toNat / 2 ^ 9 % 2 ^ 7 * 2 ^ 9 := and_prefix_run w 7 9 (by decide)

/-- A row's mask and match agree with the field description of its class. -/
def RowAgrees (r : HeaderRow) : Prop := ∀ w, r.matches w = (r.make w).wellFormed

theorem syncRows_agree : ∀ r ∈ syncRows, RowAgrees r := by
  intro r hr w
  have bound := w.isLt
  rw [Bool.eq_iff_iff]
  simp only [syncRows, List.mem_cons, List.not_mem_nil, or_false] at hr
  rcases hr with rfl | rfl | rfl | rfl | rfl | rfl | rfl | rfl | rfl | rfl | rfl <;>
  · simp only [HeaderRow.matches, Instr.wellFormed, Instr.header, HeaderShape.holds,
      Bool.and_eq_true, beq_iff_eq, decide_eq_true_eq, ← BitVec.toNat_inj, BitVec.toNat_ofNat,
        and_80000000, and_C0000000, and_E0000000, and_F0000000, and_F8000000, and_FC000000,
        and_FE000000, and_FF000000, and_FF800000, and_FFC00000, and_FFE00000]
    omega

theorem versionLayerRows_agree : ∀ r ∈ versionLayerRows, RowAgrees r := by
  intro r hr w
  have bound := w.isLt
  rw [Bool.eq_iff_iff]
  simp only [versionLayerRows, List.mem_cons, List.not_mem_nil, or_false] at hr
  rcases hr with rfl | rfl | rfl | rfl <;>
  · simp only [HeaderRow.matches, Instr.wellFormed, Instr.header, HeaderShape.holds, HeaderShape.syncOk,
      Bool.and_eq_true, beq_iff_eq, decide_eq_true_eq, slice_toNat, ← BitVec.toNat_inj, BitVec.toNat_ofNat, and_FFF00000, and_FFF80000, and_FFFC0000, and_FFFE0000]
    omega

theorem bitrateRows_agree : ∀ r ∈ bitrateRows, RowAgrees r := by
  intro r hr w
  have bound := w.isLt
  rw [Bool.eq_iff_iff]
  simp only [bitrateRows, List.mem_cons, List.not_mem_nil, or_false] at hr
  rcases hr with rfl | rfl <;>
  · simp only [HeaderRow.matches, Instr.wellFormed, Instr.header, HeaderShape.holds, HeaderShape.syncOk,
      HeaderShape.layer3Ok,
      Bool.and_eq_true, beq_iff_eq, slice_toNat, ← BitVec.toNat_inj, BitVec.toNat_ofNat, and_FFFEF000]
    omega

theorem srateRows_agree : ∀ r ∈ srateRows, RowAgrees r := by
  intro r hr w
  have bound := w.isLt
  rw [Bool.eq_iff_iff]
  simp only [srateRows, List.mem_cons, List.not_mem_nil, or_false] at hr
  rcases hr with rfl | rfl | rfl | rfl | rfl | rfl | rfl | rfl | rfl | rfl | rfl | rfl | rfl | rfl <;>
  · simp only [HeaderRow.matches, Instr.wellFormed, Instr.header, HeaderShape.holds, HeaderShape.syncOk,
      HeaderShape.layer3Ok,
      Bool.and_eq_true, beq_iff_eq, decide_eq_true_eq, slice_toNat, ← BitVec.toNat_inj, BitVec.toNat_ofNat, and_FFFEFC00]
    omega

theorem acceptRowsSr0_agree : ∀ r ∈ acceptRowsSr0, RowAgrees r := by
  intro r hr w
  have bound := w.isLt
  rw [Bool.eq_iff_iff]
  simp only [acceptRowsSr0, List.mem_cons, List.not_mem_nil, or_false] at hr
  rcases hr with rfl | rfl | rfl | rfl | rfl | rfl | rfl | rfl | rfl | rfl | rfl | rfl | rfl | rfl <;>
  · simp only [HeaderRow.matches, Instr.wellFormed, Instr.header, HeaderShape.holds, HeaderShape.syncOk,
      HeaderShape.layer3Ok,
      Bool.and_eq_true, beq_iff_eq, decide_eq_true_eq, slice_toNat, ← BitVec.toNat_inj, BitVec.toNat_ofNat, and_FFFEFC00]
    omega

theorem acceptRowsSr1_agree : ∀ r ∈ acceptRowsSr1, RowAgrees r := by
  intro r hr w
  have bound := w.isLt
  rw [Bool.eq_iff_iff]
  simp only [acceptRowsSr1, List.mem_cons, List.not_mem_nil, or_false] at hr
  rcases hr with rfl | rfl | rfl | rfl | rfl | rfl | rfl | rfl | rfl | rfl | rfl | rfl | rfl | rfl <;>
  · simp only [HeaderRow.matches, Instr.wellFormed, Instr.header, HeaderShape.holds, HeaderShape.syncOk,
      HeaderShape.layer3Ok,
      Bool.and_eq_true, beq_iff_eq, decide_eq_true_eq, slice_toNat, ← BitVec.toNat_inj, BitVec.toNat_ofNat, and_FFFEFC00]
    omega

theorem acceptRowsSr2_agree : ∀ r ∈ acceptRowsSr2, RowAgrees r := by
  intro r hr w
  have bound := w.isLt
  rw [Bool.eq_iff_iff]
  simp only [acceptRowsSr2, List.mem_cons, List.not_mem_nil, or_false] at hr
  rcases hr with rfl | rfl | rfl | rfl | rfl | rfl | rfl | rfl | rfl | rfl | rfl | rfl | rfl | rfl <;>
  · simp only [HeaderRow.matches, Instr.wellFormed, Instr.header, HeaderShape.holds, HeaderShape.syncOk,
      HeaderShape.layer3Ok,
      Bool.and_eq_true, beq_iff_eq, decide_eq_true_eq, slice_toNat, ← BitVec.toNat_inj, BitVec.toNat_ofNat, and_FFFEFC00]
    omega

/-- The table's mask and match of a class agree with the class's field description. -/
theorem matches_eq_wellFormed (r : HeaderRow) (hr : r ∈ headerTable) (w : Word) :
    r.matches w = (r.make w).wellFormed := by
  simp only [headerTable, List.mem_append] at hr
  rcases hr with (((((h | h) | h) | h) | h) | h) | h
  exacts [syncRows_agree r h w, versionLayerRows_agree r h w, bitrateRows_agree r h w, srateRows_agree r h w,
    acceptRowsSr0_agree r h w, acceptRowsSr1_agree r h w, acceptRowsSr2_agree r h w]

end Sys2Proof.Laws
end

