-- ==== Sys2Proof/Laws/PerInstr.lean ====
section
/-! SUPPORT. Per-instruction facts of the encodings: what form of word each constructor encodes to, and which row
of the header table makes it. -/

namespace Sys2Proof.Laws.EncodeForm

/-- A header class encodes to its window word, a command to a 34-bit word whose bits 31:0 are the operand
and whose bits 33:32 are the command code (spec/30_encoding.md R70, R71, R77). -/
def Statement (i : Instr) : Prop :=
  match i.header with
  | some (_, w) => encode i = .hdr32 w
  | none => ∃ c, encode i = .cmd34 c ∧ decodeCommand c = i

theorem nop (ignored : Word) : Statement (.nop ignored) :=
  ⟨_, rfl, by simp only [decodeCommand, extract_high, extract_low]; rfl⟩

theorem decodeWord (w : Word) : Statement (.decodeWord w) :=
  ⟨_, rfl, by simp only [decodeCommand, extract_high, extract_low]; rfl⟩

theorem pushByte (ignored : BitVec 24) (b : Byte) : Statement (.pushByte ignored b) :=
  ⟨_, rfl, by
    have high := extract_high 0b10#2 (ignored ++ b : Word)
    have low := extract_low 0b10#2 (ignored ++ b : Word)
    have hi := extract_high ignored b
    have lo := extract_low ignored b
    simp only [Nat.reduceAdd] at *
    simp only [decodeCommand, high, low, hi, lo]
    rfl⟩

theorem clear (ignored : Word) : Statement (.clear ignored) :=
  ⟨_, rfl, by simp only [decodeCommand, extract_high, extract_low]; rfl⟩

theorem hdrRejSyncH0 (w : Word) : Statement (.hdrRejSyncH0 w) := rfl
theorem hdrRejSyncH1 (w : Word) : Statement (.hdrRejSyncH1 w) := rfl
theorem hdrRejSyncH2 (w : Word) : Statement (.hdrRejSyncH2 w) := rfl
theorem hdrRejSyncH3 (w : Word) : Statement (.hdrRejSyncH3 w) := rfl
theorem hdrRejSyncH4 (w : Word) : Statement (.hdrRejSyncH4 w) := rfl
theorem hdrRejSyncH5 (w : Word) : Statement (.hdrRejSyncH5 w) := rfl
theorem hdrRejSyncH6 (w : Word) : Statement (.hdrRejSyncH6 w) := rfl
theorem hdrRejSyncH7 (w : Word) : Statement (.hdrRejSyncH7 w) := rfl
theorem hdrRejSyncH8 (w : Word) : Statement (.hdrRejSyncH8 w) := rfl
theorem hdrRejSyncH9 (w : Word) : Statement (.hdrRejSyncH9 w) := rfl
theorem hdrRejSyncH10 (w : Word) : Statement (.hdrRejSyncH10 w) := rfl
theorem hdrRejVlVer0x (w : Word) : Statement (.hdrRejVlVer0x w) := rfl
theorem hdrRejVlVer10 (w : Word) : Statement (.hdrRejVlVer10 w) := rfl
theorem hdrRejVlVer11Lay1x (w : Word) : Statement (.hdrRejVlVer11Lay1x w) := rfl
theorem hdrRejVlVer11Lay00 (w : Word) : Statement (.hdrRejVlVer11Lay00 w) := rfl
theorem hdrRejBrFree (w : Word) : Statement (.hdrRejBrFree w) := rfl
theorem hdrRejBrReserved (w : Word) : Statement (.hdrRejBrReserved w) := rfl
theorem hdrRejSrReservedBr1 (w : Word) : Statement (.hdrRejSrReservedBr1 w) := rfl
theorem hdrRejSrReservedBr2 (w : Word) : Statement (.hdrRejSrReservedBr2 w) := rfl
theorem hdrRejSrReservedBr3 (w : Word) : Statement (.hdrRejSrReservedBr3 w) := rfl
theorem hdrRejSrReservedBr4 (w : Word) : Statement (.hdrRejSrReservedBr4 w) := rfl
theorem hdrRejSrReservedBr5 (w : Word) : Statement (.hdrRejSrReservedBr5 w) := rfl
theorem hdrRejSrReservedBr6 (w : Word) : Statement (.hdrRejSrReservedBr6 w) := rfl
theorem hdrRejSrReservedBr7 (w : Word) : Statement (.hdrRejSrReservedBr7 w) := rfl
theorem hdrRejSrReservedBr8 (w : Word) : Statement (.hdrRejSrReservedBr8 w) := rfl
theorem hdrRejSrReservedBr9 (w : Word) : Statement (.hdrRejSrReservedBr9 w) := rfl
theorem hdrRejSrReservedBr10 (w : Word) : Statement (.hdrRejSrReservedBr10 w) := rfl
theorem hdrRejSrReservedBr11 (w : Word) : Statement (.hdrRejSrReservedBr11 w) := rfl
theorem hdrRejSrReservedBr12 (w : Word) : Statement (.hdrRejSrReservedBr12 w) := rfl
theorem hdrRejSrReservedBr13 (w : Word) : Statement (.hdrRejSrReservedBr13 w) := rfl
theorem hdrRejSrReservedBr14 (w : Word) : Statement (.hdrRejSrReservedBr14 w) := rfl
theorem hdrAcceptBr1Sr0 (w : Word) : Statement (.hdrAcceptBr1Sr0 w) := rfl
theorem hdrAcceptBr1Sr1 (w : Word) : Statement (.hdrAcceptBr1Sr1 w) := rfl
theorem hdrAcceptBr1Sr2 (w : Word) : Statement (.hdrAcceptBr1Sr2 w) := rfl
theorem hdrAcceptBr2Sr0 (w : Word) : Statement (.hdrAcceptBr2Sr0 w) := rfl
theorem hdrAcceptBr2Sr1 (w : Word) : Statement (.hdrAcceptBr2Sr1 w) := rfl
theorem hdrAcceptBr2Sr2 (w : Word) : Statement (.hdrAcceptBr2Sr2 w) := rfl
theorem hdrAcceptBr3Sr0 (w : Word) : Statement (.hdrAcceptBr3Sr0 w) := rfl
theorem hdrAcceptBr3Sr1 (w : Word) : Statement (.hdrAcceptBr3Sr1 w) := rfl
theorem hdrAcceptBr3Sr2 (w : Word) : Statement (.hdrAcceptBr3Sr2 w) := rfl
theorem hdrAcceptBr4Sr0 (w : Word) : Statement (.hdrAcceptBr4Sr0 w) := rfl
theorem hdrAcceptBr4Sr1 (w : Word) : Statement (.hdrAcceptBr4Sr1 w) := rfl
theorem hdrAcceptBr4Sr2 (w : Word) : Statement (.hdrAcceptBr4Sr2 w) := rfl
theorem hdrAcceptBr5Sr0 (w : Word) : Statement (.hdrAcceptBr5Sr0 w) := rfl
theorem hdrAcceptBr5Sr1 (w : Word) : Statement (.hdrAcceptBr5Sr1 w) := rfl
theorem hdrAcceptBr5Sr2 (w : Word) : Statement (.hdrAcceptBr5Sr2 w) := rfl
theorem hdrAcceptBr6Sr0 (w : Word) : Statement (.hdrAcceptBr6Sr0 w) := rfl
theorem hdrAcceptBr6Sr1 (w : Word) : Statement (.hdrAcceptBr6Sr1 w) := rfl
theorem hdrAcceptBr6Sr2 (w : Word) : Statement (.hdrAcceptBr6Sr2 w) := rfl
theorem hdrAcceptBr7Sr0 (w : Word) : Statement (.hdrAcceptBr7Sr0 w) := rfl
theorem hdrAcceptBr7Sr1 (w : Word) : Statement (.hdrAcceptBr7Sr1 w) := rfl
theorem hdrAcceptBr7Sr2 (w : Word) : Statement (.hdrAcceptBr7Sr2 w) := rfl
theorem hdrAcceptBr8Sr0 (w : Word) : Statement (.hdrAcceptBr8Sr0 w) := rfl
theorem hdrAcceptBr8Sr1 (w : Word) : Statement (.hdrAcceptBr8Sr1 w) := rfl
theorem hdrAcceptBr8Sr2 (w : Word) : Statement (.hdrAcceptBr8Sr2 w) := rfl
theorem hdrAcceptBr9Sr0 (w : Word) : Statement (.hdrAcceptBr9Sr0 w) := rfl
theorem hdrAcceptBr9Sr1 (w : Word) : Statement (.hdrAcceptBr9Sr1 w) := rfl
theorem hdrAcceptBr9Sr2 (w : Word) : Statement (.hdrAcceptBr9Sr2 w) := rfl
theorem hdrAcceptBr10Sr0 (w : Word) : Statement (.hdrAcceptBr10Sr0 w) := rfl
theorem hdrAcceptBr10Sr1 (w : Word) : Statement (.hdrAcceptBr10Sr1 w) := rfl
theorem hdrAcceptBr10Sr2 (w : Word) : Statement (.hdrAcceptBr10Sr2 w) := rfl
theorem hdrAcceptBr11Sr0 (w : Word) : Statement (.hdrAcceptBr11Sr0 w) := rfl
theorem hdrAcceptBr11Sr1 (w : Word) : Statement (.hdrAcceptBr11Sr1 w) := rfl
theorem hdrAcceptBr11Sr2 (w : Word) : Statement (.hdrAcceptBr11Sr2 w) := rfl
theorem hdrAcceptBr12Sr0 (w : Word) : Statement (.hdrAcceptBr12Sr0 w) := rfl
theorem hdrAcceptBr12Sr1 (w : Word) : Statement (.hdrAcceptBr12Sr1 w) := rfl
theorem hdrAcceptBr12Sr2 (w : Word) : Statement (.hdrAcceptBr12Sr2 w) := rfl
theorem hdrAcceptBr13Sr0 (w : Word) : Statement (.hdrAcceptBr13Sr0 w) := rfl
theorem hdrAcceptBr13Sr1 (w : Word) : Statement (.hdrAcceptBr13Sr1 w) := rfl
theorem hdrAcceptBr13Sr2 (w : Word) : Statement (.hdrAcceptBr13Sr2 w) := rfl
theorem hdrAcceptBr14Sr0 (w : Word) : Statement (.hdrAcceptBr14Sr0 w) := rfl
theorem hdrAcceptBr14Sr1 (w : Word) : Statement (.hdrAcceptBr14Sr1 w) := rfl
theorem hdrAcceptBr14Sr2 (w : Word) : Statement (.hdrAcceptBr14Sr2 w) := rfl

end Sys2Proof.Laws.EncodeForm

namespace Sys2Proof.Laws.TableRow

/-- A header class is made by a row of the header table (spec/30_encoding.md R77). -/
def Statement (i : Instr) : Prop :=
  ∀ h w, i.header = some (h, w) → ∃ r ∈ headerTable, r.make w = i

theorem nop (ignored : Word) : Statement (.nop ignored) := nofun
theorem decodeWord (w : Word) : Statement (.decodeWord w) := nofun
theorem pushByte (ignored : BitVec 24) (b : Byte) : Statement (.pushByte ignored b) := nofun
theorem clear (ignored : Word) : Statement (.clear ignored) := nofun
theorem hdrRejSyncH0 (w : Word) : Statement (.hdrRejSyncH0 w) :=
  fun _ _ e => ⟨headerTable[0], List.getElem_mem (by decide), by cases e; rfl⟩
theorem hdrRejSyncH1 (w : Word) : Statement (.hdrRejSyncH1 w) :=
  fun _ _ e => ⟨headerTable[1], List.getElem_mem (by decide), by cases e; rfl⟩
theorem hdrRejSyncH2 (w : Word) : Statement (.hdrRejSyncH2 w) :=
  fun _ _ e => ⟨headerTable[2], List.getElem_mem (by decide), by cases e; rfl⟩
theorem hdrRejSyncH3 (w : Word) : Statement (.hdrRejSyncH3 w) :=
  fun _ _ e => ⟨headerTable[3], List.getElem_mem (by decide), by cases e; rfl⟩
theorem hdrRejSyncH4 (w : Word) : Statement (.hdrRejSyncH4 w) :=
  fun _ _ e => ⟨headerTable[4], List.getElem_mem (by decide), by cases e; rfl⟩
theorem hdrRejSyncH5 (w : Word) : Statement (.hdrRejSyncH5 w) :=
  fun _ _ e => ⟨headerTable[5], List.getElem_mem (by decide), by cases e; rfl⟩
theorem hdrRejSyncH6 (w : Word) : Statement (.hdrRejSyncH6 w) :=
  fun _ _ e => ⟨headerTable[6], List.getElem_mem (by decide), by cases e; rfl⟩
theorem hdrRejSyncH7 (w : Word) : Statement (.hdrRejSyncH7 w) :=
  fun _ _ e => ⟨headerTable[7], List.getElem_mem (by decide), by cases e; rfl⟩
theorem hdrRejSyncH8 (w : Word) : Statement (.hdrRejSyncH8 w) :=
  fun _ _ e => ⟨headerTable[8], List.getElem_mem (by decide), by cases e; rfl⟩
theorem hdrRejSyncH9 (w : Word) : Statement (.hdrRejSyncH9 w) :=
  fun _ _ e => ⟨headerTable[9], List.getElem_mem (by decide), by cases e; rfl⟩
theorem hdrRejSyncH10 (w : Word) : Statement (.hdrRejSyncH10 w) :=
  fun _ _ e => ⟨headerTable[10], List.getElem_mem (by decide), by cases e; rfl⟩
theorem hdrRejVlVer0x (w : Word) : Statement (.hdrRejVlVer0x w) :=
  fun _ _ e => ⟨headerTable[11], List.getElem_mem (by decide), by cases e; rfl⟩
theorem hdrRejVlVer10 (w : Word) : Statement (.hdrRejVlVer10 w) :=
  fun _ _ e => ⟨headerTable[12], List.getElem_mem (by decide), by cases e; rfl⟩
theorem hdrRejVlVer11Lay1x (w : Word) : Statement (.hdrRejVlVer11Lay1x w) :=
  fun _ _ e => ⟨headerTable[13], List.getElem_mem (by decide), by cases e; rfl⟩
theorem hdrRejVlVer11Lay00 (w : Word) : Statement (.hdrRejVlVer11Lay00 w) :=
  fun _ _ e => ⟨headerTable[14], List.getElem_mem (by decide), by cases e; rfl⟩
theorem hdrRejBrFree (w : Word) : Statement (.hdrRejBrFree w) :=
  fun _ _ e => ⟨headerTable[15], List.getElem_mem (by decide), by cases e; rfl⟩
theorem hdrRejBrReserved (w : Word) : Statement (.hdrRejBrReserved w) :=
  fun _ _ e => ⟨headerTable[16], List.getElem_mem (by decide), by cases e; rfl⟩
theorem hdrRejSrReservedBr1 (w : Word) : Statement (.hdrRejSrReservedBr1 w) :=
  fun _ _ e => ⟨headerTable[17], List.getElem_mem (by decide), by cases e; rfl⟩
theorem hdrRejSrReservedBr2 (w : Word) : Statement (.hdrRejSrReservedBr2 w) :=
  fun _ _ e => ⟨headerTable[18], List.getElem_mem (by decide), by cases e; rfl⟩
theorem hdrRejSrReservedBr3 (w : Word) : Statement (.hdrRejSrReservedBr3 w) :=
  fun _ _ e => ⟨headerTable[19], List.getElem_mem (by decide), by cases e; rfl⟩
theorem hdrRejSrReservedBr4 (w : Word) : Statement (.hdrRejSrReservedBr4 w) :=
  fun _ _ e => ⟨headerTable[20], List.getElem_mem (by decide), by cases e; rfl⟩
theorem hdrRejSrReservedBr5 (w : Word) : Statement (.hdrRejSrReservedBr5 w) :=
  fun _ _ e => ⟨headerTable[21], List.getElem_mem (by decide), by cases e; rfl⟩
theorem hdrRejSrReservedBr6 (w : Word) : Statement (.hdrRejSrReservedBr6 w) :=
  fun _ _ e => ⟨headerTable[22], List.getElem_mem (by decide), by cases e; rfl⟩
theorem hdrRejSrReservedBr7 (w : Word) : Statement (.hdrRejSrReservedBr7 w) :=
  fun _ _ e => ⟨headerTable[23], List.getElem_mem (by decide), by cases e; rfl⟩
theorem hdrRejSrReservedBr8 (w : Word) : Statement (.hdrRejSrReservedBr8 w) :=
  fun _ _ e => ⟨headerTable[24], List.getElem_mem (by decide), by cases e; rfl⟩
theorem hdrRejSrReservedBr9 (w : Word) : Statement (.hdrRejSrReservedBr9 w) :=
  fun _ _ e => ⟨headerTable[25], List.getElem_mem (by decide), by cases e; rfl⟩
theorem hdrRejSrReservedBr10 (w : Word) : Statement (.hdrRejSrReservedBr10 w) :=
  fun _ _ e => ⟨headerTable[26], List.getElem_mem (by decide), by cases e; rfl⟩
theorem hdrRejSrReservedBr11 (w : Word) : Statement (.hdrRejSrReservedBr11 w) :=
  fun _ _ e => ⟨headerTable[27], List.getElem_mem (by decide), by cases e; rfl⟩
theorem hdrRejSrReservedBr12 (w : Word) : Statement (.hdrRejSrReservedBr12 w) :=
  fun _ _ e => ⟨headerTable[28], List.getElem_mem (by decide), by cases e; rfl⟩
theorem hdrRejSrReservedBr13 (w : Word) : Statement (.hdrRejSrReservedBr13 w) :=
  fun _ _ e => ⟨headerTable[29], List.getElem_mem (by decide), by cases e; rfl⟩
theorem hdrRejSrReservedBr14 (w : Word) : Statement (.hdrRejSrReservedBr14 w) :=
  fun _ _ e => ⟨headerTable[30], List.getElem_mem (by decide), by cases e; rfl⟩
theorem hdrAcceptBr1Sr0 (w : Word) : Statement (.hdrAcceptBr1Sr0 w) :=
  fun _ _ e => ⟨headerTable[31], List.getElem_mem (by decide), by cases e; rfl⟩
theorem hdrAcceptBr1Sr1 (w : Word) : Statement (.hdrAcceptBr1Sr1 w) :=
  fun _ _ e => ⟨headerTable[45], List.getElem_mem (by decide), by cases e; rfl⟩
theorem hdrAcceptBr1Sr2 (w : Word) : Statement (.hdrAcceptBr1Sr2 w) :=
  fun _ _ e => ⟨headerTable[59], List.getElem_mem (by decide), by cases e; rfl⟩
theorem hdrAcceptBr2Sr0 (w : Word) : Statement (.hdrAcceptBr2Sr0 w) :=
  fun _ _ e => ⟨headerTable[32], List.getElem_mem (by decide), by cases e; rfl⟩
theorem hdrAcceptBr2Sr1 (w : Word) : Statement (.hdrAcceptBr2Sr1 w) :=
  fun _ _ e => ⟨headerTable[46], List.getElem_mem (by decide), by cases e; rfl⟩
theorem hdrAcceptBr2Sr2 (w : Word) : Statement (.hdrAcceptBr2Sr2 w) :=
  fun _ _ e => ⟨headerTable[60], List.getElem_mem (by decide), by cases e; rfl⟩
theorem hdrAcceptBr3Sr0 (w : Word) : Statement (.hdrAcceptBr3Sr0 w) :=
  fun _ _ e => ⟨headerTable[33], List.getElem_mem (by decide), by cases e; rfl⟩
theorem hdrAcceptBr3Sr1 (w : Word) : Statement (.hdrAcceptBr3Sr1 w) :=
  fun _ _ e => ⟨headerTable[47], List.getElem_mem (by decide), by cases e; rfl⟩
theorem hdrAcceptBr3Sr2 (w : Word) : Statement (.hdrAcceptBr3Sr2 w) :=
  fun _ _ e => ⟨headerTable[61], List.getElem_mem (by decide), by cases e; rfl⟩
theorem hdrAcceptBr4Sr0 (w : Word) : Statement (.hdrAcceptBr4Sr0 w) :=
  fun _ _ e => ⟨headerTable[34], List.getElem_mem (by decide), by cases e; rfl⟩
theorem hdrAcceptBr4Sr1 (w : Word) : Statement (.hdrAcceptBr4Sr1 w) :=
  fun _ _ e => ⟨headerTable[48], List.getElem_mem (by decide), by cases e; rfl⟩
theorem hdrAcceptBr4Sr2 (w : Word) : Statement (.hdrAcceptBr4Sr2 w) :=
  fun _ _ e => ⟨headerTable[62], List.getElem_mem (by decide), by cases e; rfl⟩
theorem hdrAcceptBr5Sr0 (w : Word) : Statement (.hdrAcceptBr5Sr0 w) :=
  fun _ _ e => ⟨headerTable[35], List.getElem_mem (by decide), by cases e; rfl⟩
theorem hdrAcceptBr5Sr1 (w : Word) : Statement (.hdrAcceptBr5Sr1 w) :=
  fun _ _ e => ⟨headerTable[49], List.getElem_mem (by decide), by cases e; rfl⟩
theorem hdrAcceptBr5Sr2 (w : Word) : Statement (.hdrAcceptBr5Sr2 w) :=
  fun _ _ e => ⟨headerTable[63], List.getElem_mem (by decide), by cases e; rfl⟩
theorem hdrAcceptBr6Sr0 (w : Word) : Statement (.hdrAcceptBr6Sr0 w) :=
  fun _ _ e => ⟨headerTable[36], List.getElem_mem (by decide), by cases e; rfl⟩
theorem hdrAcceptBr6Sr1 (w : Word) : Statement (.hdrAcceptBr6Sr1 w) :=
  fun _ _ e => ⟨headerTable[50], List.getElem_mem (by decide), by cases e; rfl⟩
theorem hdrAcceptBr6Sr2 (w : Word) : Statement (.hdrAcceptBr6Sr2 w) :=
  fun _ _ e => ⟨headerTable[64], List.getElem_mem (by decide), by cases e; rfl⟩
theorem hdrAcceptBr7Sr0 (w : Word) : Statement (.hdrAcceptBr7Sr0 w) :=
  fun _ _ e => ⟨headerTable[37], List.getElem_mem (by decide), by cases e; rfl⟩
theorem hdrAcceptBr7Sr1 (w : Word) : Statement (.hdrAcceptBr7Sr1 w) :=
  fun _ _ e => ⟨headerTable[51], List.getElem_mem (by decide), by cases e; rfl⟩
theorem hdrAcceptBr7Sr2 (w : Word) : Statement (.hdrAcceptBr7Sr2 w) :=
  fun _ _ e => ⟨headerTable[65], List.getElem_mem (by decide), by cases e; rfl⟩
theorem hdrAcceptBr8Sr0 (w : Word) : Statement (.hdrAcceptBr8Sr0 w) :=
  fun _ _ e => ⟨headerTable[38], List.getElem_mem (by decide), by cases e; rfl⟩
theorem hdrAcceptBr8Sr1 (w : Word) : Statement (.hdrAcceptBr8Sr1 w) :=
  fun _ _ e => ⟨headerTable[52], List.getElem_mem (by decide), by cases e; rfl⟩
theorem hdrAcceptBr8Sr2 (w : Word) : Statement (.hdrAcceptBr8Sr2 w) :=
  fun _ _ e => ⟨headerTable[66], List.getElem_mem (by decide), by cases e; rfl⟩
theorem hdrAcceptBr9Sr0 (w : Word) : Statement (.hdrAcceptBr9Sr0 w) :=
  fun _ _ e => ⟨headerTable[39], List.getElem_mem (by decide), by cases e; rfl⟩
theorem hdrAcceptBr9Sr1 (w : Word) : Statement (.hdrAcceptBr9Sr1 w) :=
  fun _ _ e => ⟨headerTable[53], List.getElem_mem (by decide), by cases e; rfl⟩
theorem hdrAcceptBr9Sr2 (w : Word) : Statement (.hdrAcceptBr9Sr2 w) :=
  fun _ _ e => ⟨headerTable[67], List.getElem_mem (by decide), by cases e; rfl⟩
theorem hdrAcceptBr10Sr0 (w : Word) : Statement (.hdrAcceptBr10Sr0 w) :=
  fun _ _ e => ⟨headerTable[40], List.getElem_mem (by decide), by cases e; rfl⟩
theorem hdrAcceptBr10Sr1 (w : Word) : Statement (.hdrAcceptBr10Sr1 w) :=
  fun _ _ e => ⟨headerTable[54], List.getElem_mem (by decide), by cases e; rfl⟩
theorem hdrAcceptBr10Sr2 (w : Word) : Statement (.hdrAcceptBr10Sr2 w) :=
  fun _ _ e => ⟨headerTable[68], List.getElem_mem (by decide), by cases e; rfl⟩
theorem hdrAcceptBr11Sr0 (w : Word) : Statement (.hdrAcceptBr11Sr0 w) :=
  fun _ _ e => ⟨headerTable[41], List.getElem_mem (by decide), by cases e; rfl⟩
theorem hdrAcceptBr11Sr1 (w : Word) : Statement (.hdrAcceptBr11Sr1 w) :=
  fun _ _ e => ⟨headerTable[55], List.getElem_mem (by decide), by cases e; rfl⟩
theorem hdrAcceptBr11Sr2 (w : Word) : Statement (.hdrAcceptBr11Sr2 w) :=
  fun _ _ e => ⟨headerTable[69], List.getElem_mem (by decide), by cases e; rfl⟩
theorem hdrAcceptBr12Sr0 (w : Word) : Statement (.hdrAcceptBr12Sr0 w) :=
  fun _ _ e => ⟨headerTable[42], List.getElem_mem (by decide), by cases e; rfl⟩
theorem hdrAcceptBr12Sr1 (w : Word) : Statement (.hdrAcceptBr12Sr1 w) :=
  fun _ _ e => ⟨headerTable[56], List.getElem_mem (by decide), by cases e; rfl⟩
theorem hdrAcceptBr12Sr2 (w : Word) : Statement (.hdrAcceptBr12Sr2 w) :=
  fun _ _ e => ⟨headerTable[70], List.getElem_mem (by decide), by cases e; rfl⟩
theorem hdrAcceptBr13Sr0 (w : Word) : Statement (.hdrAcceptBr13Sr0 w) :=
  fun _ _ e => ⟨headerTable[43], List.getElem_mem (by decide), by cases e; rfl⟩
theorem hdrAcceptBr13Sr1 (w : Word) : Statement (.hdrAcceptBr13Sr1 w) :=
  fun _ _ e => ⟨headerTable[57], List.getElem_mem (by decide), by cases e; rfl⟩
theorem hdrAcceptBr13Sr2 (w : Word) : Statement (.hdrAcceptBr13Sr2 w) :=
  fun _ _ e => ⟨headerTable[71], List.getElem_mem (by decide), by cases e; rfl⟩
theorem hdrAcceptBr14Sr0 (w : Word) : Statement (.hdrAcceptBr14Sr0 w) :=
  fun _ _ e => ⟨headerTable[44], List.getElem_mem (by decide), by cases e; rfl⟩
theorem hdrAcceptBr14Sr1 (w : Word) : Statement (.hdrAcceptBr14Sr1 w) :=
  fun _ _ e => ⟨headerTable[58], List.getElem_mem (by decide), by cases e; rfl⟩
theorem hdrAcceptBr14Sr2 (w : Word) : Statement (.hdrAcceptBr14Sr2 w) :=
  fun _ _ e => ⟨headerTable[72], List.getElem_mem (by decide), by cases e; rfl⟩

end Sys2Proof.Laws.TableRow
end

