-- ==== Sys2Proof/Laws/Encode.lean ====
section
/-! SUPPORT. What the cycle that presents an instruction asks for, said once for all constructors. -/

namespace Sys2Proof.Laws

open Sys2Proof.Machine

/-- A header class encodes to its window word. -/
theorem encode_header {i : Instr} {h : HeaderShape} {w : Word} (hi : i.header = some (h, w)) :
    encode i = .hdr32 w := by
  cases i <;> simp only [Instr.header, Option.some.injEq, Prod.mk.injEq, reduceCtorEq] at hi <;>
    obtain ⟨-, rfl⟩ := hi <;> rfl

/-- A command encodes to a command word that decodes to it. -/
theorem encode_command {i : Instr} (hi : i.header = none) : ∃ c, encode i = .cmd34 c ∧ decodeCommand c = i := by
  have form : EncodeForm.Statement i := by
    cases i <;> simp only [Instr.header, reduceCtorEq] at hi
    exacts [EncodeForm.nop _, EncodeForm.decodeWord _, EncodeForm.pushByte _ _, EncodeForm.clear _]
  rwa [EncodeForm.Statement, hi] at form

/-- The code of DECODE_WORD before a word. -/
theorem decodeCommand_decodeWord (w : Word) : decodeCommand (0b01#2 ++ w) = .decodeWord w := by
  obtain ⟨c, hc, hd⟩ := EncodeForm.decodeWord w
  simp only [encode, CodeWord.cmd34.injEq] at hc
  rw [hc, hd]

/-- A defined cycle with `rst` = 0 asks for the command its pins spell. -/
theorem request_defined (cmd : BitVec 2) (hi : BitVec 24) (lo : Byte) :
    Pins.request ⟨some false, some cmd, some hi, some lo⟩ = .run (decodeCommand (cmd ++ (hi ++ lo))) := by
  have word : commandWord cmd (some hi) (some lo) = some (cmd ++ (hi ++ lo)) := by
    simp only [commandWord]
    split
    · rfl
    · split <;> simp
  simp only [Pins.request, word]

/-- The three parts of a command word. -/
theorem command_parts (c : BitVec 34) :
    c.extractLsb' 32 2 ++ (c.extractLsb' 8 24 ++ c.extractLsb' 0 8) = c := by
  have bound := c.isLt
  apply BitVec.eq_of_toNat_eq
  rw [BitVec.toNat_append, BitVec.toNat_append, ← Nat.shiftLeft_add_eq_or_of_lt (BitVec.isLt _), slice_toNat,
    slice_toNat, slice_toNat, ← Nat.shiftLeft_add_eq_or_of_lt (by simp only [Nat.shiftLeft_eq]; omega),
    Nat.shiftLeft_eq, Nat.shiftLeft_eq, Nat.pow_zero, Nat.div_one]
  omega

/-- The cycle of a command word. -/
theorem request_ofCommand (c : BitVec 34) : (Pins.ofCommand c).request = .run (decodeCommand c) := by
  rw [Pins.ofCommand, request_defined, command_parts]

/-- The cycle of an instruction: a header class is presented as the operand of DECODE_WORD (log entry 1). -/
theorem request_ofInstr (i : Instr) :
    (Pins.ofInstr i).request = .run (match i.header with | some (_, w) => .decodeWord w | none => i) := by
  rcases hi : i.header with _ | ⟨h, w⟩
  · obtain ⟨c, hc, hd⟩ := encode_command hi
    rw [Pins.ofInstr, hc, Pins.ofCodeWord, request_ofCommand, hd]
  · rw [Pins.ofInstr, encode_header hi, Pins.ofCodeWord, request_ofCommand, decodeCommand_decodeWord]

/-- A cycle asks for one of the four commands, never for a header class. -/
theorem request_is_command {p : Pins} {i : Instr} (h : p.request = .run i) : i.header = none := by
  have command : ∀ c, (decodeCommand c).header = none := fun c => by
    simp only [decodeCommand]
    split_ifs <;> rfl
  simp only [Pins.request] at h
  split at h
  case h_4 =>
    split at h <;> cases h
    exact command _
  all_goals cases h

end Sys2Proof.Laws
end

