-- ==== Sys2Proof/Laws/HeaderDecode.lean ====
section
/-! SUPPORT. What `Decode` can answer, said once: the result with the field values that lead to it, as facts about the
window's number. -/

namespace Sys2Proof.Laws

open Sys2Proof.Machine

/-- The bitrate of an index that has one. -/
theorem bitrateEntry_kbps {bri : BitVec 4} {k : Nat} (h : bitrateEntry bri = .kbps k) :
    bri ≠ 0 ∧ bri ≠ 15 ∧ 32 ≤ k ∧ k ≤ 320 := by
  revert h
  unfold bitrateEntry
  split <;> intro h <;> simp_all [← BitVec.toNat_inj] <;> omega

/-- Index 0 alone is free-form. -/
theorem bitrateEntry_free {bri : BitVec 4} : bitrateEntry bri = .free ↔ bri = 0 := by
  revert bri; decide

/-- Index 15 alone is reserved. -/
theorem bitrateEntry_reserved {bri : BitVec 4} : bitrateEntry bri = .reserved ↔ bri = 15 := by
  revert bri; decide

/-- The sampling rate of an index that has one. -/
theorem srateEntry_some {sri : BitVec 2} {hz : Nat} (h : srateEntry sri = some hz) :
    sri ≠ 3 ∧ (hz = 44100 ∨ hz = 48000 ∨ hz = 32000) := by
  revert h
  unfold srateEntry
  split <;> intro h <;> simp_all [← BitVec.toNat_inj]

/-- Index 3 alone is reserved. -/
theorem srateEntry_none {sri : BitVec 2} : srateEntry sri = none ↔ sri = 3 := by
  revert sri; decide

/-- Every answer of `Decode`, with the checks that lead to it. -/
theorem decodeWindow_cases (w : Word) :
    (decodeWindow w = .reject .sync ∧ hdrSync w ≠ 0x7FF#11) ∨
    (decodeWindow w = .reject .versionLayer ∧ hdrSync w = 0x7FF#11 ∧ ¬ (hdrVer w = 0b11#2 ∧ hdrLay w = 0b01#2)) ∨
    (decodeWindow w = .reject .bitrateFree ∧ hdrSync w = 0x7FF#11 ∧ hdrVer w = 0b11#2 ∧ hdrLay w = 0b01#2 ∧
      hdrBrIdx w = 0) ∨
    (decodeWindow w = .reject .bitrateReserved ∧ hdrSync w = 0x7FF#11 ∧ hdrVer w = 0b11#2 ∧ hdrLay w = 0b01#2 ∧
      hdrBrIdx w = 15) ∨
    (decodeWindow w = .reject .srateReserved ∧ hdrSync w = 0x7FF#11 ∧ hdrVer w = 0b11#2 ∧ hdrLay w = 0b01#2 ∧
      hdrBrIdx w ≠ 0 ∧ hdrBrIdx w ≠ 15 ∧ hdrSrIdx w = 3) ∨
    ∃ kbps hz, decodeWindow w = .accept (descriptor kbps hz (hdrPadded w)) ∧ hdrSync w = 0x7FF#11 ∧
      hdrVer w = 0b11#2 ∧ hdrLay w = 0b01#2 ∧ bitrateEntry (hdrBrIdx w) = .kbps kbps ∧
      srateEntry (hdrSrIdx w) = some hz := by
  simp only [decodeWindow, ver1Code, layer3Code]
  by_cases hs : hdrSync w = 0x7FF#11
  · by_cases hv : hdrVer w = 0b11#2 ∧ hdrLay w = 0b01#2
    · rcases hb : bitrateEntry (hdrBrIdx w) with _ | kbps | _
      · simp [hs, hv, bitrateEntry_free.mp hb]
      · have idx := bitrateEntry_kbps hb
        rcases hr : srateEntry (hdrSrIdx w) with _ | hz
        · simpa [hs, hv, srateEntry_none.mp hr] using ⟨idx.1, idx.2.1⟩
        · simp [hs, hv]
      · simp [hs, hv, bitrateEntry_reserved.mp hb]
    · simp [hs, hv]
  · simp [hs]

/-- The descriptor of an accepted window. -/
theorem decodeWindow_accept {w : Word} {d : Descriptor} (h : decodeWindow w = .accept d) :
    ∃ kbps hz, d = descriptor kbps hz (hdrPadded w) ∧ hdrSync w = 0x7FF#11 ∧ hdrVer w = 0b11#2 ∧
      hdrLay w = 0b01#2 ∧ bitrateEntry (hdrBrIdx w) = .kbps kbps ∧ srateEntry (hdrSrIdx w) = some hz := by
  rcases decodeWindow_cases w with c | c | c | c | c | ⟨kbps, hz, hd, rest⟩
  all_goals first | (rw [c.1] at h; cases h) | skip
  rw [hd] at h
  cases h
  exact ⟨kbps, hz, rfl, rest⟩

end Sys2Proof.Laws
end

