-- ==== Sys2Proof/Laws/State.lean ====
section
/-! SUPPORT. One lemma per field of State per update: what the field is after it. -/

namespace Sys2Proof.Machine.State

/-! ### `endPulse` -/

@[simp] theorem endPulse_offsetW (s : State) : (s.endPulse).offsetW = s.offsetW := rfl
@[simp] theorem endPulse_rValid (s : State) : (s.endPulse).rValid = s.rValid := rfl
@[simp] theorem endPulse_rNew (s : State) : (s.endPulse).rNew = false := rfl
@[simp] theorem endPulse_rScan (s : State) : (s.endPulse).rScan = s.rScan := rfl
@[simp] theorem endPulse_rAccept (s : State) : (s.endPulse).rAccept = s.rAccept := rfl
@[simp] theorem endPulse_rReason (s : State) : (s.endPulse).rReason = s.rReason := rfl
@[simp] theorem endPulse_rVer (s : State) : (s.endPulse).rVer = s.rVer := rfl
@[simp] theorem endPulse_rLay (s : State) : (s.endPulse).rLay = s.rLay := rfl
@[simp] theorem endPulse_rBrIdx (s : State) : (s.endPulse).rBrIdx = s.rBrIdx := rfl
@[simp] theorem endPulse_rSrIdx (s : State) : (s.endPulse).rSrIdx = s.rSrIdx := rfl
@[simp] theorem endPulse_rBitrate (s : State) : (s.endPulse).rBitrate = s.rBitrate := rfl
@[simp] theorem endPulse_rSrate (s : State) : (s.endPulse).rSrate = s.rSrate := rfl
@[simp] theorem endPulse_rPadded (s : State) : (s.endPulse).rPadded = s.rPadded := rfl
@[simp] theorem endPulse_rFsize (s : State) : (s.endPulse).rFsize = s.rFsize := rfl
@[simp] theorem endPulse_rOffset (s : State) : (s.endPulse).rOffset = s.rOffset := rfl
@[simp] theorem endPulse_pos (s : State) : (s.endPulse).pos = s.pos := rfl
@[simp] theorem endPulse_frameCount (s : State) : (s.endPulse).frameCount = s.frameCount := rfl
@[simp] theorem endPulse_ovf (s : State) : (s.endPulse).ovf = s.ovf := rfl
@[simp] theorem endPulse_win (s : State) : (s.endPulse).win = s.win := rfl
@[simp] theorem endPulse_fill (s : State) : (s.endPulse).fill = s.fill := rfl
@[simp] theorem endPulse_inputs (s : State) : (s.endPulse).inputs = s.inputs := rfl

/-! ### `dropByte` -/

@[simp] theorem dropByte_offsetW (s : State) : (s.dropByte).offsetW = s.offsetW := rfl
@[simp] theorem dropByte_rValid (s : State) : (s.dropByte).rValid = s.rValid := rfl
@[simp] theorem dropByte_rNew (s : State) : (s.dropByte).rNew = false := rfl
@[simp] theorem dropByte_rScan (s : State) : (s.dropByte).rScan = s.rScan := rfl
@[simp] theorem dropByte_rAccept (s : State) : (s.dropByte).rAccept = s.rAccept := rfl
@[simp] theorem dropByte_rReason (s : State) : (s.dropByte).rReason = s.rReason := rfl
@[simp] theorem dropByte_rVer (s : State) : (s.dropByte).rVer = s.rVer := rfl
@[simp] theorem dropByte_rLay (s : State) : (s.dropByte).rLay = s.rLay := rfl
@[simp] theorem dropByte_rBrIdx (s : State) : (s.dropByte).rBrIdx = s.rBrIdx := rfl
@[simp] theorem dropByte_rSrIdx (s : State) : (s.dropByte).rSrIdx = s.rSrIdx := rfl
@[simp] theorem dropByte_rBitrate (s : State) : (s.dropByte).rBitrate = s.rBitrate := rfl
@[simp] theorem dropByte_rSrate (s : State) : (s.dropByte).rSrate = s.rSrate := rfl
@[simp] theorem dropByte_rPadded (s : State) : (s.dropByte).rPadded = s.rPadded := rfl
@[simp] theorem dropByte_rFsize (s : State) : (s.dropByte).rFsize = s.rFsize := rfl
@[simp] theorem dropByte_rOffset (s : State) : (s.dropByte).rOffset = s.rOffset := rfl
@[simp] theorem dropByte_pos (s : State) : (s.dropByte).pos = s.pos := rfl
@[simp] theorem dropByte_frameCount (s : State) : (s.dropByte).frameCount = s.frameCount := rfl
@[simp] theorem dropByte_ovf (s : State) : (s.dropByte).ovf = true := rfl
@[simp] theorem dropByte_win (s : State) : (s.dropByte).win = s.win := rfl
@[simp] theorem dropByte_fill (s : State) : (s.dropByte).fill = s.fill := rfl
@[simp] theorem dropByte_inputs (s : State) : (s.dropByte).inputs = s.inputs := rfl

/-! ### `shiftIn` -/

@[simp] theorem shiftIn_offsetW (s : State) (b : Byte) : (s.shiftIn b).offsetW = s.offsetW := rfl
@[simp] theorem shiftIn_rValid (s : State) (b : Byte) : (s.shiftIn b).rValid = s.rValid := rfl
@[simp] theorem shiftIn_rNew (s : State) (b : Byte) : (s.shiftIn b).rNew = s.rNew := rfl
@[simp] theorem shiftIn_rScan (s : State) (b : Byte) : (s.shiftIn b).rScan = s.rScan := rfl
@[simp] theorem shiftIn_rAccept (s : State) (b : Byte) : (s.shiftIn b).rAccept = s.rAccept := rfl
@[simp] theorem shiftIn_rReason (s : State) (b : Byte) : (s.shiftIn b).rReason = s.rReason := rfl
@[simp] theorem shiftIn_rVer (s : State) (b : Byte) : (s.shiftIn b).rVer = s.rVer := rfl
@[simp] theorem shiftIn_rLay (s : State) (b : Byte) : (s.shiftIn b).rLay = s.rLay := rfl
@[simp] theorem shiftIn_rBrIdx (s : State) (b : Byte) : (s.shiftIn b).rBrIdx = s.rBrIdx := rfl
@[simp] theorem shiftIn_rSrIdx (s : State) (b : Byte) : (s.shiftIn b).rSrIdx = s.rSrIdx := rfl
@[simp] theorem shiftIn_rBitrate (s : State) (b : Byte) : (s.shiftIn b).rBitrate = s.rBitrate := rfl
@[simp] theorem shiftIn_rSrate (s : State) (b : Byte) : (s.shiftIn b).rSrate = s.rSrate := rfl
@[simp] theorem shiftIn_rPadded (s : State) (b : Byte) : (s.shiftIn b).rPadded = s.rPadded := rfl
@[simp] theorem shiftIn_rFsize (s : State) (b : Byte) : (s.shiftIn b).rFsize = s.rFsize := rfl
@[simp] theorem shiftIn_rOffset (s : State) (b : Byte) : (s.shiftIn b).rOffset = s.rOffset := rfl
@[simp] theorem shiftIn_pos (s : State) (b : Byte) : (s.shiftIn b).pos = s.narrow (s.pos + 1) := rfl
@[simp] theorem shiftIn_frameCount (s : State) (b : Byte) : (s.shiftIn b).frameCount = s.frameCount := rfl
@[simp] theorem shiftIn_ovf (s : State) (b : Byte) : (s.shiftIn b).ovf = s.ovf := rfl
@[simp] theorem shiftIn_win (s : State) (b : Byte) : (s.shiftIn b).win = shiftWindow s.win b := rfl
@[simp] theorem shiftIn_fill (s : State) (b : Byte) : (s.shiftIn b).fill = BitVec.ofNat 3 s.nextFill := rfl
@[simp] theorem shiftIn_inputs (s : State) (b : Byte) : (s.shiftIn b).inputs = s.inputs := rfl

/-! ### `writeResult` -/

@[simp] theorem writeResult_offsetW (s : State) (res : DecodeResult) (w : Word) (off : Nat) (scan : Bool) : (s.writeResult res w off scan).offsetW = s.offsetW := by
  cases res <;> rfl
@[simp] theorem writeResult_rValid (s : State) (res : DecodeResult) (w : Word) (off : Nat) (scan : Bool) : (s.writeResult res w off scan).rValid = true := by
  cases res <;> rfl
@[simp] theorem writeResult_rNew (s : State) (res : DecodeResult) (w : Word) (off : Nat) (scan : Bool) : (s.writeResult res w off scan).rNew = true := by
  cases res <;> rfl
@[simp] theorem writeResult_rScan (s : State) (res : DecodeResult) (w : Word) (off : Nat) (scan : Bool) : (s.writeResult res w off scan).rScan = scan := by
  cases res <;> rfl
@[simp] theorem writeResult_rAccept (s : State) (res : DecodeResult) (w : Word) (off : Nat) (scan : Bool) : (s.writeResult res w off scan).rAccept = res.isAccept := by
  cases res <;> rfl
@[simp] theorem writeResult_rReason (s : State) (res : DecodeResult) (w : Word) (off : Nat) (scan : Bool) : (s.writeResult res w off scan).rReason = res.reasonCode := by
  cases res <;> rfl
@[simp] theorem writeResult_rVer (s : State) (res : DecodeResult) (w : Word) (off : Nat) (scan : Bool) : (s.writeResult res w off scan).rVer = hdrVer w := by
  cases res <;> rfl
@[simp] theorem writeResult_rLay (s : State) (res : DecodeResult) (w : Word) (off : Nat) (scan : Bool) : (s.writeResult res w off scan).rLay = hdrLay w := by
  cases res <;> rfl
@[simp] theorem writeResult_rBrIdx (s : State) (res : DecodeResult) (w : Word) (off : Nat) (scan : Bool) : (s.writeResult res w off scan).rBrIdx = hdrBrIdx w := by
  cases res <;> rfl
@[simp] theorem writeResult_rSrIdx (s : State) (res : DecodeResult) (w : Word) (off : Nat) (scan : Bool) : (s.writeResult res w off scan).rSrIdx = hdrSrIdx w := by
  cases res <;> rfl
@[simp] theorem writeResult_rOffset (s : State) (res : DecodeResult) (w : Word) (off : Nat) (scan : Bool) : (s.writeResult res w off scan).rOffset = s.narrow off := by
  cases res <;> rfl
@[simp] theorem writeResult_pos (s : State) (res : DecodeResult) (w : Word) (off : Nat) (scan : Bool) : (s.writeResult res w off scan).pos = s.pos := by
  cases res <;> rfl
@[simp] theorem writeResult_frameCount (s : State) (res : DecodeResult) (w : Word) (off : Nat) (scan : Bool) : (s.writeResult res w off scan).frameCount = s.frameCount := by
  cases res <;> rfl
@[simp] theorem writeResult_ovf (s : State) (res : DecodeResult) (w : Word) (off : Nat) (scan : Bool) : (s.writeResult res w off scan).ovf = s.ovf := by
  cases res <;> rfl
@[simp] theorem writeResult_win (s : State) (res : DecodeResult) (w : Word) (off : Nat) (scan : Bool) : (s.writeResult res w off scan).win = s.win := by
  cases res <;> rfl
@[simp] theorem writeResult_fill (s : State) (res : DecodeResult) (w : Word) (off : Nat) (scan : Bool) : (s.writeResult res w off scan).fill = s.fill := by
  cases res <;> rfl
@[simp] theorem writeResult_inputs (s : State) (res : DecodeResult) (w : Word) (off : Nat) (scan : Bool) : (s.writeResult res w off scan).inputs = s.inputs := by
  cases res <;> rfl

@[simp] theorem writeResult_accept_rBitrate (s : State) (d : Descriptor) (w : Word) (off : Nat) (scan : Bool) :
    (s.writeResult (.accept d) w off scan).rBitrate = BitVec.ofNat 9 d.bitrateKbps := rfl
@[simp] theorem writeResult_reject_rBitrate (s : State) (r : Reason) (w : Word) (off : Nat) (scan : Bool) :
    (s.writeResult (.reject r) w off scan).rBitrate = 0 := rfl
@[simp] theorem writeResult_accept_rSrate (s : State) (d : Descriptor) (w : Word) (off : Nat) (scan : Bool) :
    (s.writeResult (.accept d) w off scan).rSrate = BitVec.ofNat 16 d.samplingRateHz := rfl
@[simp] theorem writeResult_reject_rSrate (s : State) (r : Reason) (w : Word) (off : Nat) (scan : Bool) :
    (s.writeResult (.reject r) w off scan).rSrate = 0 := rfl
@[simp] theorem writeResult_accept_rPadded (s : State) (d : Descriptor) (w : Word) (off : Nat) (scan : Bool) :
    (s.writeResult (.accept d) w off scan).rPadded = d.padded := rfl
@[simp] theorem writeResult_reject_rPadded (s : State) (r : Reason) (w : Word) (off : Nat) (scan : Bool) :
    (s.writeResult (.reject r) w off scan).rPadded = false := rfl
@[simp] theorem writeResult_accept_rFsize (s : State) (d : Descriptor) (w : Word) (off : Nat) (scan : Bool) :
    (s.writeResult (.accept d) w off scan).rFsize = BitVec.ofNat 9 d.frameSizeBytes := rfl
@[simp] theorem writeResult_reject_rFsize (s : State) (r : Reason) (w : Word) (off : Nat) (scan : Bool) :
    (s.writeResult (.reject r) w off scan).rFsize = 0 := rfl

/-! ### `countRecord` -/

@[simp] theorem countRecord_offsetW (s : State) (res : DecodeResult) : (s.countRecord res).offsetW = s.offsetW := by
  cases res <;> rfl
@[simp] theorem countRecord_rValid (s : State) (res : DecodeResult) : (s.countRecord res).rValid = s.rValid := by
  cases res <;> rfl
@[simp] theorem countRecord_rNew (s : State) (res : DecodeResult) : (s.countRecord res).rNew = s.rNew := by
  cases res <;> rfl
@[simp] theorem countRecord_rScan (s : State) (res : DecodeResult) : (s.countRecord res).rScan = s.rScan := by
  cases res <;> rfl
@[simp] theorem countRecord_rAccept (s : State) (res : DecodeResult) : (s.countRecord res).rAccept = s.rAccept := by
  cases res <;> rfl
@[simp] theorem countRecord_rReason (s : State) (res : DecodeResult) : (s.countRecord res).rReason = s.rReason := by
  cases res <;> rfl
@[simp] theorem countRecord_rVer (s : State) (res : DecodeResult) : (s.countRecord res).rVer = s.rVer := by
  cases res <;> rfl
@[simp] theorem countRecord_rLay (s : State) (res : DecodeResult) : (s.countRecord res).rLay = s.rLay := by
  cases res <;> rfl
@[simp] theorem countRecord_rBrIdx (s : State) (res : DecodeResult) : (s.countRecord res).rBrIdx = s.rBrIdx := by
  cases res <;> rfl
@[simp] theorem countRecord_rSrIdx (s : State) (res : DecodeResult) : (s.countRecord res).rSrIdx = s.rSrIdx := by
  cases res <;> rfl
@[simp] theorem countRecord_rBitrate (s : State) (res : DecodeResult) : (s.countRecord res).rBitrate = s.rBitrate := by
  cases res <;> rfl
@[simp] theorem countRecord_rSrate (s : State) (res : DecodeResult) : (s.countRecord res).rSrate = s.rSrate := by
  cases res <;> rfl
@[simp] theorem countRecord_rPadded (s : State) (res : DecodeResult) : (s.countRecord res).rPadded = s.rPadded := by
  cases res <;> rfl
@[simp] theorem countRecord_rFsize (s : State) (res : DecodeResult) : (s.countRecord res).rFsize = s.rFsize := by
  cases res <;> rfl
@[simp] theorem countRecord_rOffset (s : State) (res : DecodeResult) : (s.countRecord res).rOffset = s.rOffset := by
  cases res <;> rfl
@[simp] theorem countRecord_pos (s : State) (res : DecodeResult) : (s.countRecord res).pos = s.pos := by
  cases res <;> rfl
@[simp] theorem countRecord_ovf (s : State) (res : DecodeResult) : (s.countRecord res).ovf = s.ovf := by
  cases res <;> rfl
@[simp] theorem countRecord_win (s : State) (res : DecodeResult) : (s.countRecord res).win = s.win := by
  cases res <;> rfl
@[simp] theorem countRecord_fill (s : State) (res : DecodeResult) : (s.countRecord res).fill = s.fill := by
  cases res <;> rfl
@[simp] theorem countRecord_inputs (s : State) (res : DecodeResult) : (s.countRecord res).inputs = s.inputs := by
  cases res <;> rfl

@[simp] theorem countRecord_accept_frameCount (s : State) (d : Descriptor) :
    (s.countRecord (.accept d)).frameCount = s.narrow (s.frameCount + 1) := rfl
@[simp] theorem countRecord_reject (s : State) (r : Reason) : s.countRecord (.reject r) = s := rfl

/-! ### `clearAll` -/

@[simp] theorem clearAll_offsetW (s : State) : (s.clearAll).offsetW = s.offsetW := rfl
@[simp] theorem clearAll_rValid (s : State) : (s.clearAll).rValid = false := rfl
@[simp] theorem clearAll_rNew (s : State) : (s.clearAll).rNew = false := rfl
@[simp] theorem clearAll_rScan (s : State) : (s.clearAll).rScan = false := rfl
@[simp] theorem clearAll_rAccept (s : State) : (s.clearAll).rAccept = false := rfl
@[simp] theorem clearAll_rReason (s : State) : (s.clearAll).rReason = 0 := rfl
@[simp] theorem clearAll_rVer (s : State) : (s.clearAll).rVer = 0 := rfl
@[simp] theorem clearAll_rLay (s : State) : (s.clearAll).rLay = 0 := rfl
@[simp] theorem clearAll_rBrIdx (s : State) : (s.clearAll).rBrIdx = 0 := rfl
@[simp] theorem clearAll_rSrIdx (s : State) : (s.clearAll).rSrIdx = 0 := rfl
@[simp] theorem clearAll_rBitrate (s : State) : (s.clearAll).rBitrate = 0 := rfl
@[simp] theorem clearAll_rSrate (s : State) : (s.clearAll).rSrate = 0 := rfl
@[simp] theorem clearAll_rPadded (s : State) : (s.clearAll).rPadded = false := rfl
@[simp] theorem clearAll_rFsize (s : State) : (s.clearAll).rFsize = 0 := rfl
@[simp] theorem clearAll_rOffset (s : State) : (s.clearAll).rOffset = 0 := rfl
@[simp] theorem clearAll_pos (s : State) : (s.clearAll).pos = 0 := rfl
@[simp] theorem clearAll_frameCount (s : State) : (s.clearAll).frameCount = 0 := rfl
@[simp] theorem clearAll_ovf (s : State) : (s.clearAll).ovf = false := rfl
@[simp] theorem clearAll_win (s : State) : (s.clearAll).win = 0 := rfl
@[simp] theorem clearAll_fill (s : State) : (s.clearAll).fill = 0 := rfl
@[simp] theorem clearAll_inputs (s : State) : (s.clearAll).inputs = s.inputs := rfl

/-! ### `resetEdge` -/

@[simp] theorem resetEdge_offsetW (s : State) : (s.resetEdge).offsetW = s.offsetW := rfl
@[simp] theorem resetEdge_rValid (s : State) : (s.resetEdge).rValid = false := rfl
@[simp] theorem resetEdge_rNew (s : State) : (s.resetEdge).rNew = false := rfl
@[simp] theorem resetEdge_rScan (s : State) : (s.resetEdge).rScan = false := rfl
@[simp] theorem resetEdge_rAccept (s : State) : (s.resetEdge).rAccept = false := rfl
@[simp] theorem resetEdge_rReason (s : State) : (s.resetEdge).rReason = 0 := rfl
@[simp] theorem resetEdge_rVer (s : State) : (s.resetEdge).rVer = 0 := rfl
@[simp] theorem resetEdge_rLay (s : State) : (s.resetEdge).rLay = 0 := rfl
@[simp] theorem resetEdge_rBrIdx (s : State) : (s.resetEdge).rBrIdx = 0 := rfl
@[simp] theorem resetEdge_rSrIdx (s : State) : (s.resetEdge).rSrIdx = 0 := rfl
@[simp] theorem resetEdge_rBitrate (s : State) : (s.resetEdge).rBitrate = 0 := rfl
@[simp] theorem resetEdge_rSrate (s : State) : (s.resetEdge).rSrate = 0 := rfl
@[simp] theorem resetEdge_rPadded (s : State) : (s.resetEdge).rPadded = false := rfl
@[simp] theorem resetEdge_rFsize (s : State) : (s.resetEdge).rFsize = 0 := rfl
@[simp] theorem resetEdge_rOffset (s : State) : (s.resetEdge).rOffset = 0 := rfl
@[simp] theorem resetEdge_pos (s : State) : (s.resetEdge).pos = 0 := rfl
@[simp] theorem resetEdge_frameCount (s : State) : (s.resetEdge).frameCount = 0 := rfl
@[simp] theorem resetEdge_ovf (s : State) : (s.resetEdge).ovf = false := rfl
@[simp] theorem resetEdge_win (s : State) : (s.resetEdge).win = 0 := rfl
@[simp] theorem resetEdge_fill (s : State) : (s.resetEdge).fill = 0 := rfl
@[simp] theorem resetEdge_inputs (s : State) : (s.resetEdge).inputs = s.inputs := rfl

/-- Every element of a block right after reset holds what CLEAR leaves (70_reset_and_hazards.md R252). -/
theorem resetEdge_eq_clearAll (s : State) : s.resetEdge = s.clearAll := rfl

end Sys2Proof.Machine.State
end

