-- ==== Sys2Proof/Laws/Ops.lean ====
section
/-! SUPPORT. What an instruction and a step can do, said once. -/

namespace Sys2Proof.Laws

open Sys2Proof.Machine

/-- The window after a push as a number. -/
theorem shiftWindow_toNat (win : Word) (b : Byte) :
    (shiftWindow win b).toNat = win.toNat % 2 ^ 24 * 2 ^ 8 + b.toNat := by
  have hb := b.isLt
  rw [shiftWindow, BitVec.toNat_append, slice_toNat, Nat.shiftLeft_eq, Nat.pow_zero, Nat.div_one,
    ← Nat.shiftLeft_eq, ← Nat.shiftLeft_add_eq_or_of_lt hb, Nat.shiftLeft_eq]

/-- The window the rule writes with a shift is the one the meaning concatenates. -/
theorem shiftWindow_eq_pushedWindow (s : State) (b : Byte) : shiftWindow s.win b = s.pushedWindow b := by
  have hb := b.isLt
  apply BitVec.eq_of_toNat_eq
  have shifted : (s.win <<< 8).toNat = (s.win.toNat % 2 ^ 24) <<< 8 := by
    simp only [BitVec.toNat_shiftLeft, Nat.shiftLeft_eq]; omega
  have widened : (b.setWidth 32).toNat = b.toNat := by
    simp only [BitVec.toNat_setWidth]; omega
  rw [shiftWindow_toNat, State.pushedWindow, BitVec.toNat_or, shifted, widened,
    ← Nat.shiftLeft_add_eq_or_of_lt hb, Nat.shiftLeft_eq]

/-- The meaning's candidate test is the rule's. -/
theorem completesCandidate_iff (s : State) (b : Byte) : s.completesCandidate b = true ↔ s.candidate b := by
  have bound := (s.pushedWindow b).isLt
  rw [State.completesCandidate, shiftWindow_eq_pushedWindow, State.candidate, State.nextFill, firstByte,
    Bool.and_eq_true, beq_iff_eq, beq_iff_eq, slice_eq_iff]
  have : syncByte.toNat = 255 := rfl
  omega

/-- A value that fits a W-bit register is written as it is. -/
theorem narrow_of_lt {s : State} {v : Nat} (h : v < 2 ^ s.offsetW) : s.narrow v = v := Nat.mod_eq_of_lt h

/-- A push that completes a candidate, through the rule's window. -/
theorem evaluateCandidate_eq (s : State) (b : Byte) :
    s.evaluateCandidate b =
      ((s.shiftIn b).writeResult (decodeWindow (s.pushedWindow b)) (s.pushedWindow b) s.candidateOffset true).countRecord
        (decodeWindow (s.pushedWindow b)) := by
  rw [State.evaluateCandidate, shiftWindow_eq_pushedWindow]

/-- A candidate has three bytes before its last one. -/
theorem three_le_pos {s : State} (h : s.fill.toNat = min s.pos 4) {b : Byte} (hc : s.candidate b) : 3 ≤ s.pos := by
  have := hc.1
  omega

/-- The offset of a candidate's first byte, without the wrap of the W-bit subtraction. -/
theorem candidateOffset_of_fits {s : State} (h : s.pos < 2 ^ s.offsetW) (h3 : 3 ≤ s.pos) :
    s.candidateOffset = s.pos - 3 := by
  have split : s.pos + 2 ^ s.offsetW - 3 = (s.pos - 3) + 2 ^ s.offsetW := by omega
  rw [State.candidateOffset, State.narrow, split, Nat.add_mod_right, Nat.mod_eq_of_lt (by omega)]

/-- A header class writes the result of its row with the window, offset 0 and scan 0; the result is the same
in every state. -/
theorem exec_header {i : Instr} {h : HeaderShape} {w : Word} (hi : i.header = some (h, w)) :
    ∃ res, ∀ s, exec i s = .next (s.writeResult res w 0 false) := by
  cases i <;> simp only [Instr.header, Option.some.injEq, Prod.mk.injEq, reduceCtorEq] at hi <;>
    obtain ⟨-, rfl⟩ := hi <;> exact ⟨_, fun _ => rfl⟩

/-- Everything an instruction can do. -/
theorem exec_cases (i : Instr) (s : State) :
    (∃ d, i = .nop d ∧ exec i s = .next s.endPulse) ∨
    (∃ d, i = .clear d ∧ exec i s = .next s.clearAll) ∨
    (∃ g b, i = .pushByte g b ∧
      ((s.pos = 2 ^ s.offsetW - 1 ∧ exec i s = .next s.dropByte) ∨
       (s.pos ≠ 2 ^ s.offsetW - 1 ∧ s.candidate b ∧ exec i s = .next (s.evaluateCandidate b)) ∨
       (s.pos ≠ 2 ^ s.offsetW - 1 ∧ ¬ s.candidate b ∧ exec i s = .next (s.shiftIn b).endPulse))) ∨
    (isPush i = false ∧ isClear i = false ∧ evaluates i s ∧
      ∃ res w, (∀ s, exec i s = .next (s.writeResult res w 0 false)) ∧
        ((i = .decodeWord w ∧ res = decodeWindow w) ∨ ∃ h, i.header = some (h, w))) := by
  rcases hh : i.header with _ | ⟨h, w⟩
  · cases i <;> simp only [Instr.header, reduceCtorEq] at hh
    case nop d => exact .inl ⟨d, rfl, rfl⟩
    case clear d => exact .inr (.inl ⟨d, rfl, rfl⟩)
    case decodeWord w => exact .inr (.inr (.inr ⟨rfl, rfl, trivial, _, w, fun _ => rfl, .inl ⟨rfl, rfl⟩⟩))
    case pushByte g b =>
      refine .inr (.inr (.inl ⟨g, b, rfl, ?_⟩))
      by_cases full : s.pos = 2 ^ s.offsetW - 1
      · exact .inl ⟨full, if_pos full⟩
      · by_cases cand : s.candidate b
        · refine .inr (.inl ⟨full, cand, ?_⟩)
          exact (if_neg full).trans (if_pos ((completesCandidate_iff s b).mpr cand))
        · refine .inr (.inr ⟨full, cand, ?_⟩)
          exact (if_neg full).trans (if_neg (fun c => cand ((completesCandidate_iff s b).mp c)))
  · obtain ⟨res, hres⟩ := exec_header hh
    refine .inr (.inr (.inr ⟨?_, ?_, ?_, res, w, hres, .inr ⟨h, rfl⟩⟩)) <;>
      cases i <;> simp [Instr.header] at hh <;> first | rfl | trivial

/-- A step on a state with a cycle to come. -/
theorem step_cons {s : State} {p : Pins} {rest : List Pins} (h : s.inputs = p :: rest) :
    step s = match p.request with
      | .undefined => .refused .undefinedInput
      | .reset => .next { s with inputs := rest }.resetEdge
      | .run i => exec i { s with inputs := rest } := by
  cases hp : p.request <;> simp only [step, h, hp]

/-- Every step that gives a state is a reset edge or runs one instruction. -/
theorem step_next {s t : State} (h : step s = .next t) :
    ∃ p rest, s.inputs = p :: rest ∧
      ((p.request = .reset ∧ t = { s with inputs := rest }.resetEdge) ∨
       ∃ i, p.request = .run i ∧ exec i { s with inputs := rest } = .next t) := by
  rcases hs : s.inputs with _ | ⟨p, rest⟩
  · rw [step, hs] at h; cases h
  · rw [step_cons hs] at h
    refine ⟨p, rest, rfl, ?_⟩
    rcases hp : p.request with _ | i | _ <;> rw [hp] at h
    · cases h; exact .inl ⟨rfl, rfl⟩
    · exact .inr ⟨i, rfl, h⟩
    · cases h

end Sys2Proof.Laws
end

