-- ==== Sys2Proof/Laws/Trace.lean ====
section
/-! SUPPORT. One step of `trace`, `records` and `finalState`, for inductions over the number of steps. -/

namespace Sys2Proof.Laws

open Sys2Proof.Machine

theorem trace_next {k : Nat} {s t : State} (h : step s = .next t) : trace (k + 1) s = t :: trace k t := by
  simp only [trace, h]

theorem trace_stop {k : Nat} {s : State} (h : ∀ t, step s ≠ .next t) : trace k s = [] := by
  cases k with
  | zero => rfl
  | succ k =>
    rw [trace]
    split
    · exact absurd ‹_› (h _)
    · rfl
    · rfl

theorem records_next {k : Nat} {s t : State} (h : step s = .next t) :
    records (k + 1) s = t.record.toList ++ records k t := by
  rw [records, trace_next h, List.filterMap_cons]
  cases t.record <;> rfl

theorem records_stop {k : Nat} {s : State} (h : ∀ t, step s ≠ .next t) : records k s = [] := by
  rw [records, trace_stop h]; rfl

theorem finalState_zero (s : State) : finalState 0 s = s := rfl

theorem finalState_next {k : Nat} {s t : State} (h : step s = .next t) :
    finalState (k + 1) s = finalState k t := by
  rw [finalState, trace_next h, finalState]
  cases trace k t <;> simp [List.getLastD]

theorem finalState_stop {k : Nat} {s : State} (h : ∀ t, step s ≠ .next t) : finalState k s = s := by
  rw [finalState, trace_stop h]; rfl

/-- A state that presents no new result presents no record. -/
theorem record_of_not_new {s : State} (h : s.rNew = false) : s.record = none := by
  simp [State.record, State.recOut, h]

/-- A result of DECODE_WORD is no record. -/
theorem record_of_not_scan {s : State} (h : s.rScan = false) : s.record = none := by
  simp [State.record, State.recOut, h]

/-- A rejection is no record. -/
theorem record_of_not_accept {s : State} (h : s.rAccept = false) : s.record = none := by
  simp [State.record, State.recOut, h]

end Sys2Proof.Laws
end

