-- ==== Sys2Proof/Tests/Slice0.lean ====
section
/-! SUPPORT. Tests of the model against words and vectors written out of spec/30_encoding.md and
spec/95_test_vectors.md (the T<n>.<m> and P<n> below), the smoke test of WellFormed, and for every statement of
Certificates/ that has hypotheses a concrete state and operands that meet them together. -/

namespace Sys2Proof.Tests

open Sys2Proof.Machine

/-! ### Helpers -/

/-- A check of the next state an outcome gives. -/
def next (o : Host.Outcome State Fault Refusal) (check : State → Bool) : Bool :=
  match o with
  | .next t => check t
  | .fault _ => false
  | .refused _ => false

/-- The outcome is the refusal. -/
def refused (o : Host.Outcome State Fault Refusal) (r : Refusal) : Bool :=
  match o with
  | .next _ => false
  | .fault _ => false
  | .refused r' => r == r'

/-- A block with OFFSET_W = `w` after `pos` pushes, the last of them in `win`, before any evaluation. -/
def scanning (w pos : Nat) (win : Word) : State :=
  { State.resetOf w with pos := pos, fill := BitVec.ofNat 3 (min pos 4), win := win }

/-- A full block of width 3 that has dropped a byte, as at the end of P4 but for the results. -/
def overflown : State := { scanning 3 7 0x44FFFB90#32 with ovf := true }

/-- The outcome, the reason code and the descriptor's fields of a window. -/
def shows (w : Word) (code : Nat) (kbps hz : Nat) (pad : Bool) (size : Nat) : Bool :=
  next (exec (.decodeWord w) State.reset) fun t =>
    t.rReason.toNat == code && t.rAccept == (code == 0) && t.rBitrate.toNat == kbps && t.rSrate.toNat == hz &&
      t.rPadded == pad && t.rFsize.toNat == size

/-! ### WellFormed refuses an ill-formed term of each shape -/

theorem test_wf_syncZeroAt_none : (Instr.hdrRejSyncH0 0xFFFB9044#32).wellFormed = false := by decide
theorem test_wf_syncZeroAt_other : (Instr.hdrRejSyncH10 0xFEFB9044#32).wellFormed = false := by decide
theorem test_wf_syncZeroAt_range : HeaderShape.holds (.syncZeroAt 11) 0xFFE00000#32 = false := by decide
theorem test_wf_ver0x_sync : (Instr.hdrRejVlVer0x 0xFFCB9044#32).wellFormed = false := by decide
theorem test_wf_ver0x_code : (Instr.hdrRejVlVer0x 0xFFF39044#32).wellFormed = false := by decide
theorem test_wf_ver10_code : (Instr.hdrRejVlVer10 0xFFEB9044#32).wellFormed = false := by decide
theorem test_wf_ver11Lay1x_code : (Instr.hdrRejVlVer11Lay1x 0xFFFB9044#32).wellFormed = false := by decide
theorem test_wf_ver11Lay00_code : (Instr.hdrRejVlVer11Lay00 0xFFFD9044#32).wellFormed = false := by decide
theorem test_wf_brFree_index : (Instr.hdrRejBrFree 0xFFFB1044#32).wellFormed = false := by decide
theorem test_wf_brFree_layer : (Instr.hdrRejBrFree 0xFFFD0044#32).wellFormed = false := by decide
theorem test_wf_brReserved_index : (Instr.hdrRejBrReserved 0xFFFBE044#32).wellFormed = false := by decide
theorem test_wf_srReserved_index : (Instr.hdrRejSrReservedBr9 0xFFFB8C44#32).wellFormed = false := by decide
theorem test_wf_srReserved_srate : (Instr.hdrRejSrReservedBr9 0xFFFB9844#32).wellFormed = false := by decide
theorem test_wf_srReserved_range : HeaderShape.holds (.srReserved 15) 0xFFFBFC44#32 = false := by decide
theorem test_wf_accept_index : (Instr.hdrAcceptBr9Sr0 0xFFFBA044#32).wellFormed = false := by decide
theorem test_wf_accept_srate : (Instr.hdrAcceptBr9Sr0 0xFFFB9444#32).wellFormed = false := by decide
theorem test_wf_accept_range : HeaderShape.holds (.accept 9 3) 0xFFFB9C44#32 = false := by decide
theorem test_wf_accepts : (Instr.hdrAcceptBr9Sr0 0xFFFB9044#32).wellFormed = true := by decide

/-! ### Decoding: words written out from R70, R71 and R77 -/

theorem test_decode_nop : decodeTableWord 40 0b00_00000000000000000000000000000000 = some (.nop 0) := by decide
theorem test_decode_decodeWord :
    decodeTableWord 40 0b01_11111111111110111001000001000100 = some (.decodeWord 0xFFFB9044#32) := by decide
theorem test_decode_pushByte :
    decodeTableWord 40 0b10_000000000000000000000001_11111110 = some (.pushByte 1 0xFE#8) := by decide
theorem test_decode_clear : decodeTableWord 40 0b11_00000000000000000000000000000001 = some (.clear 1) := by decide
/-- Sync fields whose first 0 is `H[0]`, `H[7]` and `H[10]` (T3.18, T3.19, T3.21). -/
theorem test_decode_sync :
    decodeTableWord 32 0b01111111111_11_01_1_1001_00_0_001000100 = some (.hdrRejSyncH0 0x7FFB9044#32) ∧
      decodeTableWord 32 0b11111110111_11_01_1_1001_00_0_001000100 = some (.hdrRejSyncH7 0xFEFB9044#32) ∧
      decodeTableWord 32 0b11111111110_11_11_1_1111_11_1_111111111 = some (.hdrRejSyncH10 0xFFDFFFFF#32) := by decide
/-- Sync good, the four version and layer classes (T3.24, T3.26, T3.28, T3.27). -/
theorem test_decode_versionLayer :
    decodeTableWord 32 0b11111111111_01_01_1_1001_00_0_001000100 = some (.hdrRejVlVer0x 0xFFEB9044#32) ∧
      decodeTableWord 32 0b11111111111_10_10_1_1001_00_0_001000100 = some (.hdrRejVlVer10 0xFFF59044#32) ∧
      decodeTableWord 32 0b11111111111_11_10_1_1001_00_0_001000100 = some (.hdrRejVlVer11Lay1x 0xFFFD9044#32) ∧
      decodeTableWord 32 0b11111111111_11_00_1_1001_00_0_001000100 = some (.hdrRejVlVer11Lay00 0xFFF99044#32) := by
  decide
/-- Bitrate indices 0 and 15, also with sampling-rate index 3 (T3.32, T3.37). -/
theorem test_decode_bitrate :
    decodeTableWord 32 0b11111111111_11_01_1_0000_00_0_001000100 = some (.hdrRejBrFree 0xFFFB0044#32) ∧
      decodeTableWord 32 0b11111111111_11_01_1_1111_11_0_001000100 = some (.hdrRejBrReserved 0xFFFBFC44#32) := by decide
/-- Sampling-rate index 3 (T3.39, T3.41). -/
theorem test_decode_srate :
    decodeTableWord 32 0b11111111111_11_01_1_1001_11_0_001000100 = some (.hdrRejSrReservedBr9 0xFFFB9C44#32) ∧
      decodeTableWord 32 0b11111111111_11_01_0_1110_11_0_011111111 = some (.hdrRejSrReservedBr14 0xFFFAECFF#32) := by
  decide
/-- Accepted windows of the three sampling rates (T3.3, T3.11, T3.14). -/
theorem test_decode_accept :
    decodeTableWord 32 0b11111111111_11_01_1_1001_00_1_001000100 = some (.hdrAcceptBr9Sr0 0xFFFB9244#32) ∧
      decodeTableWord 32 0b11111111111_11_01_1_1101_01_1_000000000 = some (.hdrAcceptBr13Sr1 0xFFFBD600#32) ∧
      decodeTableWord 32 0b11111111111_11_01_1_1110_10_1_000000000 = some (.hdrAcceptBr14Sr2 0xFFFBEA00#32) := by decide
theorem test_decode_lengths :
    decodeTableWord 34 0x400000000 = none ∧ decodeTableWord 32 0x100000000 = none ∧ decodeTableWord 41 0 = none := by
  decide
theorem test_encode_commands :
    encode (.decodeWord 0xFFFB9044#32) = .cmd34 0x1FFFB9044#34 ∧ encode (.pushByte 0 0xFF#8) = .cmd34 0x2000000FF#34 ∧
      encode (.clear 0) = .cmd34 0x300000000#34 ∧ encode (.nop 0) = .cmd34 0 := by decide

/-! ### The bit extractor, Decode and FrameSize -/

theorem test_bitsOf :
    bitsOf [0x01#8, 0x80#8] = [false, false, false, false, false, false, false, true,
      true, false, false, false, false, false, false, false] := by decide -- T2.3
theorem test_asInteger :
    asInteger [false, true, true, true] = 7 ∧ asInteger [true, false, true] = 5 ∧ asInteger [] = 0 := by decide -- T1.3
theorem test_fields :
    [field 0xFFFB9044#32 0 11, field 0xFFFB9044#32 11 13, field 0xFFFB9044#32 13 15, field 0xFFFB9044#32 16 20,
      field 0xFFFB9044#32 20 22, field 0xFFFB9044#32 23 32] = [2047, 3, 1, 9, 0, 68] := by decide -- T2.7
theorem test_frameSize :
    frameSize 128 44100 false = 139 ∧ frameSize 128 44100 true = 140 ∧ frameSize 32 44100 false = 34 ∧
      frameSize 320 32000 true = 481 := by decide -- T4.1, T4.2, T4.3, T4.7
/-- T3.3, T3.4, T3.7, T3.12, T3.13, T3.14, T3.15. -/
theorem test_accepted_vectors :
    shows 0xFFFB9244#32 0 128 44100 true 140 ∧ shows 0xFFFB9444#32 0 128 48000 false 128 ∧
      shows 0xFFFB1400#32 0 32 48000 false 32 ∧ shows 0xFFFB5A00#32 0 64 32000 true 97 ∧
      shows 0xFFFBE200#32 0 320 44100 true 349 ∧ shows 0xFFFBEA00#32 0 320 32000 true 481 ∧
      shows 0xFFFB91FF#32 0 128 44100 false 139 := by decide
/-- T3.17, T3.22, T3.31, T3.33, T3.37, T3.40. -/
theorem test_rejected_vectors :
    shows 0x00000000#32 1 0 0 false 0 ∧ shows 0xFFE00000#32 2 0 0 false 0 ∧ shows 0xFFFFFFFF#32 2 0 0 false 0 ∧
      shows 0xFFFB0C44#32 3 0 0 false 0 ∧ shows 0xFFFBFC44#32 4 0 0 false 0 ∧
      shows 0xFFFAEE00#32 5 0 0 false 0 := by decide

/-! ### One step of each command -/

/-- T5.2: the raw registers, R_SCAN, R_OFFSET and `rec` of DECODE_WORD. -/
theorem test_decodeWord :
    next (step (State.reset.withFetchWord 40 0x1FFFB9044)) (fun t =>
      t.rValid && t.rNew && !t.rScan && !t.recOut && t.rVer == 3 && t.rLay == 1 && t.rBrIdx == 9 && t.rSrIdx == 0 &&
        t.rFsize == 139 && t.rOffset == 0 && t.pos == 0 && t.frameCount == 0) = true := by decide
/-- T5.6: NOP ends the pulse and nothing else. -/
theorem test_nop :
    next (exec (.nop 5) { State.reset with rNew := true, rValid := true, rFsize := 139 })
      (fun t => !t.rNew && t.rValid && t.rFsize == 139) = true := by decide
/-- T6.1: the fourth push completes a candidate. -/
theorem test_pushByte_evaluates :
    next (exec (.pushByte 0 0x44#8) (scanning 32 3 0x00FFFB90#32)) (fun t =>
      t.pos == 4 && t.fill == 4 && t.frameCount == 1 && t.rNew && t.rScan && t.rAccept && t.recOut && t.rOffset == 0 &&
        t.win == 0xFFFB9044#32) = true := by decide
/-- P4, cycle 9: POS is full. -/
theorem test_pushByte_dropped :
    next (exec (.pushByte 0 0x44#8) (scanning 3 7 0x44FFFB90#32)) (fun t =>
      t.ovf && !t.rNew && t.pos == 7 && t.win == 0x44FFFB90#32 && t.fill == 4) = true := by decide
/-- T7.4: CLEAR leaves the reset state. -/
theorem test_clear :
    next (exec (.clear 0) { scanning 32 3 0x00FFFB90#32 with rValid := true, rAccept := true, rBitrate := 128 })
      (fun t => t == State.reset) = true := by decide
/-- A header class is run by the cycle of its word. -/
theorem test_header_class :
    next (step (State.reset.withFetchWord 32 0xFFFB9A44)) (fun t =>
      t.rAccept && !t.rScan && t.rBitrate == 128 && t.rSrate == 32000 && t.rPadded && t.rFsize == 193) = true := by decide
theorem test_header_class_rejected :
    next (step (State.reset.withFetchWord 32 0xFFFB9C44)) (fun t =>
      !t.rAccept && t.rReason == 5 && t.rBrIdx == 9 && t.rSrIdx == 3 && t.rFsize == 0) = true := by decide
/-- T7.2: reset dominates a push. -/
theorem test_reset :
    next (step { scanning 32 3 0x00FFFB90#32 with inputs := [⟨some true, some 0b10#2, some 0, some 0xFF#8⟩] })
      (fun t => t == State.reset) = true := by decide
theorem test_no_input : refused (step State.reset) .noInput = true := by decide
/-- R234: `cmd` must be defined in a reset cycle too. -/
theorem test_undefined_cmd_at_reset :
    refused (step { State.reset with inputs := [⟨some true, none, some 0, some 0⟩] }) .undefinedInput = true := by decide
theorem test_undefined_input :
    refused (step { State.reset with inputs := [⟨some false, some 0b10#2, some 0, none⟩] }) .undefinedInput = true := by
  decide
/-- T6.1 as the source scans it. -/
theorem test_scan :
    scan [0xFF#8, 0xFB#8, 0x90#8, 0x44#8] = [(0, ⟨128, 44100, false, 384, 139⟩)] ∧
      scan [0xFF#8, 0xFB#8, 0x90#8] = [] := by decide

/-! ### Witnesses: states and operands that meet the hypotheses of the statements -/

/-- A scan state meets the invariant when its fields fit. -/
theorem scanning_inv {w pos : Nat} {win : Word} (hw : Config.minOffsetW ≤ w) (hp : pos < 2 ^ w)
    (hwin : win.toNat < 2 ^ (8 * min pos 4)) : (scanning w pos win).Inv := by
  have fill : (BitVec.ofNat 3 (min pos 4)).toNat = min pos 4 := by rw [BitVec.toNat_ofNat]; omega
  constructor
  case winIsFresh => exact fill.symm ▸ hwin
  all_goals simp_all [scanning, State.resetOf]

theorem overflown_inv : overflown.Inv := by constructor <;> decide

theorem witness_ResetCycleSetsEveryElement :
    ∃ (s : State) (cmd : BitVec 2) (hi : BitVec 24) (lo : Byte) (rest : List Pins),
      s.inputs = ⟨some true, some cmd, some hi, some lo⟩ :: rest :=
  ⟨{ overflown with inputs := [⟨some true, some 2, some 0, some 0xFF#8⟩] }, _, _, _, _, rfl⟩

theorem witness_HoldingResetGivesTheResetState :
    ∃ (s : State) (held rest : List Pins), s.inputs = held ++ rest ∧ held ≠ [] ∧ held.length = 2 ∧
      ∀ p ∈ held, ∃ cmd hi lo, p = ⟨some true, some cmd, some hi, some lo⟩ :=
  ⟨{ overflown with inputs := [Pins.resetCycle, ⟨some true, some 2, some 0, some 0xFF#8⟩, Pins.ofInstr (.nop 0)] },
    [Pins.resetCycle, ⟨some true, some 2, some 0, some 0xFF#8⟩], [Pins.ofInstr (.nop 0)], rfl, by decide, rfl, by
      intro p hp
      simp only [List.mem_cons, List.not_mem_nil, or_false] at hp
      rcases hp with rfl | rfl <;> exact ⟨_, _, _, rfl⟩⟩

theorem witness_StateResetIsWhatAResetCycleLeaves :
    ∃ (s : State) (p : Pins), s.offsetW = 32 ∧ s.inputs = [p] ∧ p.rst = some true ∧ p.cmd.isSome = true :=
  ⟨{ scanning 32 3 0x00FFFB90#32 with inputs := [Pins.resetCycle] }, _, rfl, rfl, rfl, rfl⟩

theorem witness_ClearSetsEveryElement :
    ∃ (s : State) (hi : BitVec 24) (lo : Byte) (rest : List Pins),
      s.inputs = ⟨some false, some 0b11#2, some hi, some lo⟩ :: rest :=
  ⟨{ overflown with inputs := [⟨some false, some 0b11#2, some 0, some 1⟩] }, _, _, _, rfl⟩

theorem witness_NopWritesOnlyRNew :
    ∃ (s : State) (hi : BitVec 24) (lo : Byte) (rest : List Pins),
      s.inputs = ⟨some false, some 0b00#2, some hi, some lo⟩ :: rest :=
  ⟨{ overflown with inputs := [⟨some false, some 0b00#2, some 1, some 0⟩] }, _, _, _, rfl⟩

theorem witness_WriteResultFollowsItsProcedure : ∃ (s : State) (off : Nat), off < 2 ^ s.offsetW ∧ off = 7 :=
  ⟨State.resetOf 3, 7, by decide, rfl⟩

theorem witness_DecodeWordWritesTheResult :
    (∃ w d, decodeWindow w = .accept d) ∧ (∃ w r, decodeWindow w = .reject r) ∧
      ∃ (s : State) (w : Word) (hi : BitVec 24) (lo : Byte) (rest : List Pins),
        s.inputs = ⟨some false, some 0b01#2, some hi, some lo⟩ :: rest ∧ hi ++ lo = w :=
  ⟨⟨0xFFFB9044#32, ⟨128, 44100, false, 384, 139⟩, by decide⟩, ⟨0xFFFFFFFF#32, .versionLayer, by decide⟩,
    { State.reset with inputs := [⟨some false, some 0b01#2, some 0xFFFB90#24, some 0x44#8⟩] }, 0xFFFB9044#32,
    0xFFFB90#24, 0x44#8, [], rfl, by decide⟩

/-- For DecodeWordIgnoresUninterpretedBits and DecodeIgnoresUninterpretedBits (T5.8). -/
theorem witness_uninterpreted_bits :
    0xFFFB9044#32 &&& 0xFFFEFE00#32 = 0xFFFA91FF#32 &&& 0xFFFEFE00#32 ∧ 0xFFFB9044#32 ≠ 0xFFFA91FF#32 := by decide

theorem witness_BitsOfEmitsMostSignificantFirst :
    ([0x01#8, 0x80#8] : List Byte)[0]? = some 0x01#8 ∧ ([0x01#8, 0x80#8] : List Byte)[1]? = some 0x80#8 ∧ 0 < 8 ∧
      7 < 8 := by decide

theorem witness_FieldsAreWordSlices : 31 < 32 ∧ (0 ≤ 32 ∧ 32 ≤ 32) ∧ (32 ≤ 32 ∧ 32 ≤ 32) := by decide

/-- For AcceptedWindowsStartWithSyncBytes, FrameSizesAreTheTable and AcceptedDescriptorsFitTheirRegisters: the
smallest and the largest frame (T3.7, T3.14). -/
theorem witness_accepted_windows :
    decodeWindow 0xFFFB1400#32 = .accept ⟨32, 48000, false, 384, 32⟩ ∧
      decodeWindow 0xFFFBEA00#32 = .accept ⟨320, 32000, true, 384, 481⟩ := by decide

theorem witness_SourceRejectionProperties :
    (0xFFDFFFFF#32 : Word).toNat / 2 ^ 21 ≠ 0x7FF ∧ (0xFFFB0044#32 : Word).toNat / 2 ^ 12 % 16 = 0 ∧
      (0xFFFBF044#32 : Word).toNat / 2 ^ 12 % 16 = 15 ∧ (0xFFFB9C44#32 : Word).toNat / 2 ^ 10 % 4 = 3 := by decide

/-- The first and the last accepting row, every ignored bit set. -/
theorem witness_AcceptingRowsComplete :
    (∃ r ∈ Claims.acceptRows, r.bri = 1 ∧ r.sri = 0 ∧
      0xFFFB13FF#32 &&& 0xFFFEFC00#32 = BitVec.ofNat 32 (0xFFFA0000 + r.bri.toNat * 0x1000 + r.sri.toNat * 0x400)) ∧
    ∃ r ∈ Claims.acceptRows, r.bri = 14 ∧ r.sri = 2 ∧
      0xFFFBEBFF#32 &&& 0xFFFEFC00#32 = BitVec.ofNat 32 (0xFFFA0000 + r.bri.toNat * 0x1000 + r.sri.toNat * 0x400) :=
  ⟨⟨Claims.acceptRows[0], List.getElem_mem (by decide), by decide⟩,
    ⟨Claims.acceptRows[41], List.getElem_mem (by decide), by decide⟩⟩

theorem witness_RejectingRowsComplete : ∃ r, r ∈ Claims.rejectRows :=
  ⟨Claims.rejectRows[30], List.getElem_mem (by decide)⟩

/-- Also for DecodeOfEncodeIsIdentity and StepRunsEveryPresentedInstruction. -/
theorem witness_HeaderClassesAgreeWithDecode :
    (Instr.hdrRejSrReservedBr14 0xFFFAECFF#32).header = some (.srReserved 14, 0xFFFAECFF#32) ∧
      (Instr.hdrRejSrReservedBr14 0xFFFAECFF#32).wellFormed = true := by decide

/-- The command, the state and the reason of a rejection. -/
def Rejects (i : Instr) (s : State) (code : BitVec 3) : Prop :=
  i.wellFormed = true ∧ evaluates i s ∧ ∃ t, exec i s = .next t ∧ t.rAccept = false ∧ t.rReason = code

theorem witness_RejectionsAreRecorded :
    Rejects (.decodeWord 0x00000000#32) State.reset 1 ∧
      Rejects (.pushByte 0 0xFF#8) (scanning 3 3 0x00FFFFFF#32) 2 ∧
      Rejects (.decodeWord 0xFFFB0C44#32) State.reset 3 ∧ Rejects (.hdrRejBrReserved 0xFFFBFC44#32) State.reset 4 ∧
      Rejects (.pushByte 0 0x44#8) (scanning 3 6 0x00FFFB9C#32) 5 :=
  ⟨⟨by decide, trivial, _, rfl, by decide, by decide⟩,
    ⟨by decide, ⟨by decide, by unfold State.candidate; decide⟩, _, rfl, by decide, by decide⟩,
    ⟨by decide, trivial, _, rfl, by decide, by decide⟩, ⟨by decide, trivial, _, rfl, by decide, by decide⟩,
    ⟨by decide, ⟨by decide, by unfold State.candidate; decide⟩, _, rfl, by decide, by decide⟩⟩

/-- The four ways of PUSH_BYTE at width 3: POS full; POS one below, no candidate; a candidate at the last byte; a
candidate at the first offset. -/
theorem witness_PushByteFollowsItsPseudocode :
    ((scanning 3 7 0x44FFFB90#32).Inv ∧ (scanning 3 7 0x44FFFB90#32).pos = 2 ^ 3 - 1) ∧
    ((scanning 3 6 0x9044FFFB#32).Inv ∧ 6 ≠ 2 ^ 3 - 1 ∧ ¬ (scanning 3 6 0x9044FFFB#32).candidate 0x90#8) ∧
    ((scanning 3 6 0x44FFFB90#32).Inv ∧ (scanning 3 6 0x44FFFB90#32).candidate 0x44#8 ∧
      decodeWindow ((scanning 3 6 0x44FFFB90#32).pushedWindow 0x44#8) = .accept ⟨128, 44100, false, 384, 139⟩) ∧
    ((scanning 3 3 0x00FFFFFF#32).Inv ∧ (scanning 3 3 0x00FFFFFF#32).candidate 0xFF#8 ∧
      decodeWindow ((scanning 3 3 0x00FFFFFF#32).pushedWindow 0xFF#8) = .reject .versionLayer) ∧
    ∃ (s : State), s.Inv ∧ s.inputs = [⟨some false, some 0b10#2, some 1, some 0x44#8⟩] :=
  ⟨⟨scanning_inv (by decide) (by decide) (by decide), by decide⟩,
    ⟨scanning_inv (by decide) (by decide) (by decide), by decide, by unfold State.candidate; decide⟩,
    ⟨scanning_inv (by decide) (by decide) (by decide), by unfold State.candidate; decide, by decide⟩,
    ⟨scanning_inv (by decide) (by decide) (by decide), by unfold State.candidate; decide, by decide⟩,
    { overflown with inputs := [⟨some false, some 0b10#2, some 1, some 0x44#8⟩] }, by constructor <;> decide, rfl⟩

/-- A window not yet full, a window that does not start with 0xFF, a dropped byte. -/
theorem witness_NonEvaluatingPushKeepsTheResult :
    (∃ t, ¬ evaluates (.pushByte 0 0x90#8) (scanning 3 2 0x0000FFFB#32) ∧
      exec (.pushByte 0 0x90#8) (scanning 3 2 0x0000FFFB#32) = .next t) ∧
    (∃ t, ¬ evaluates (.pushByte 0 0x90#8) (scanning 3 6 0x9044FFFB#32) ∧
      exec (.pushByte 0 0x90#8) (scanning 3 6 0x9044FFFB#32) = .next t) ∧
    ∃ t, ¬ evaluates (.pushByte 0 0x44#8) (scanning 3 7 0x44FFFB90#32) ∧
      exec (.pushByte 0 0x44#8) (scanning 3 7 0x44FFFB90#32) = .next t :=
  ⟨⟨_, by unfold evaluates State.candidate; decide, rfl⟩, ⟨_, by unfold evaluates State.candidate; decide, rfl⟩,
    ⟨_, by unfold evaluates State.candidate; decide, rfl⟩⟩

theorem witness_OverflowLastsUntilClear :
    (scanning 3 7 0x44FFFB90#32).pos = 2 ^ (scanning 3 7 0x44FFFB90#32).offsetW - 1 ∧
    overflown.Inv ∧ overflown.ovf = true ∧ isClear (.pushByte 0 0xFF#8) = false ∧ isClear (.nop 0) = false ∧
      (∃ t, exec (.pushByte 0 0xFF#8) overflown = .next t) ∧ ∃ t, exec (.nop 0) overflown = .next t :=
  ⟨by decide, overflown_inv, rfl, rfl, rfl, ⟨_, rfl⟩, ⟨_, rfl⟩⟩

/-- Each clause: a push one below the limit and at it, CLEAR, another instruction, a reset cycle. -/
theorem witness_PosAdvancesByOnePerPush :
    ((scanning 3 6 0x9044FFFB#32).Inv ∧ (∃ t, exec (.pushByte 0 0x90#8) (scanning 3 6 0x9044FFFB#32) = .next t) ∧
      isPush (.pushByte 0 0x90#8) = true) ∧
    (overflown.Inv ∧ (∃ t, exec (.pushByte 0 0x90#8) overflown = .next t)) ∧
    ((∃ t, exec (.clear 0) overflown = .next t) ∧ isClear (.clear 0) = true) ∧
    ((∃ t, exec (.decodeWord 0) overflown = .next t) ∧ isPush (.decodeWord 0) = false ∧
      isClear (.decodeWord 0) = false) ∧
    ∃ t, step { overflown with inputs := [Pins.resetCycle] } = .next t ∧ Pins.resetCycle.rst = some true :=
  ⟨⟨scanning_inv (by decide) (by decide) (by decide), ⟨_, rfl⟩, rfl⟩, ⟨overflown_inv, _, rfl⟩,
    ⟨⟨_, rfl⟩, rfl⟩, ⟨⟨_, rfl⟩, rfl, rfl⟩, _, rfl, rfl⟩

theorem witness_FirstThreePushesNeverEvaluate :
    ((State.resetOf 3).Inv ∧ (State.resetOf 3).pos < 3 ∧ ∃ t, exec (.pushByte 0 0xFF#8) (State.resetOf 3) = .next t) ∧
    ((scanning 3 2 0x0000FFFB#32).Inv ∧ (scanning 3 2 0x0000FFFB#32).pos < 3 ∧
      ∃ t, exec (.pushByte 0 0x90#8) (scanning 3 2 0x0000FFFB#32) = .next t) :=
  ⟨⟨by constructor <;> decide, by decide, _, rfl⟩,
    ⟨scanning_inv (by decide) (by decide) (by decide), by decide, _, rfl⟩⟩

/-- The last position at width 3 at which four bytes fit. -/
theorem witness_PushWordAndDecodeWordSeeTheSameWindow :
    ∃ (s : State) (w : Word), s.Inv ∧ s.pos + 4 ≤ 2 ^ s.offsetW - 1 ∧ s.inputs = (Line.pushWord w).cycles ∧
      w.toNat / 2 ^ 24 = 0xFF ∧ s.pos = 3 :=
  ⟨{ scanning 3 3 0x00010203#32 with inputs := (Line.pushWord 0xFFFB9044#32).cycles }, 0xFFFB9044#32,
    by constructor <;> decide, by decide, rfl, by decide, by decide⟩

/-- A record and a state without one. -/
theorem witness_RecordsAreAcceptedScanWindows :
    (scanning 3 6 0x44FFFB90#32).Inv ∧
      (∃ t, exec (.pushByte 0 0x44#8) (scanning 3 6 0x44FFFB90#32) = .next t ∧
        t.record = some (3, ⟨128, 44100, false, 384, 139⟩)) ∧
      ∃ t, exec (.nop 0) (scanning 3 6 0x44FFFB90#32) = .next t ∧ t.record = none :=
  ⟨scanning_inv (by decide) (by decide) (by decide), ⟨_, rfl, by decide⟩, ⟨_, rfl, by decide⟩⟩

/-- A cycle that completes a record and a DECODE_WORD. -/
theorem witness_FrameCountCountsRecords :
    ∃ s : State, s.Inv ∧ s.inputs = [Pins.ofInstr (.pushByte 0 0x44#8), Pins.ofInstr (.decodeWord 0)] ∧
      (∀ p ∈ s.inputs.take 2, p.keepsStream) ∧ (records 2 s).length = 1 :=
  ⟨{ scanning 3 6 0x44FFFB90#32 with
      inputs := [Pins.ofInstr (.pushByte 0 0x44#8), Pins.ofInstr (.decodeWord 0)] },
    by constructor <;> decide, rfl, by unfold Pins.keepsStream; decide, by decide⟩

/-- Two records that share a byte, at offsets 0 and 3 of FF FB 90 FF FB 90 44. -/
theorem witness_RecordOffsetsStrictlyIncrease :
    ∃ s : State, s.Inv ∧ (∀ p ∈ s.inputs.take 4, p.keepsStream) ∧ (records 4 s).map (·.1) = [0, 3] :=
  ⟨{ scanning 3 3 0x00FFFB90#32 with inputs := (Line.pushBytes [0xFF#8, 0xFB#8, 0x90#8, 0x44#8]).cycles },
    by constructor <;> decide, by unfold Pins.keepsStream; decide, by decide⟩

theorem witness_NoSyncByteNoRecord :
    ∃ (w : Nat) (is : List Instr), Config.minOffsetW ≤ w ∧ (∀ i ∈ is, isClear i = false) ∧
      0xFF#8 ∉ pushedBytes is ∧ (∀ i ∈ is, isPush i = true ∨ ∃ ignored, i = .nop ignored) ∧ is.length = 2 :=
  ⟨3, [.pushByte 0 0xFE#8, .nop 0], by decide, by decide, by decide,
    by intro i hi; simp only [List.mem_cons, List.not_mem_nil, or_false] at hi
       rcases hi with rfl | rfl
       · exact .inl rfl
       · exact .inr ⟨_, rfl⟩, rfl⟩

/-- A stream of the greatest length at width 3, 7 bytes, with another command in between. -/
theorem witness_ScanAgreesWithTheSource :
    ∃ (w : Nat) (is : List Instr), Config.minOffsetW ≤ w ∧ (∀ i ∈ is, isClear i = false) ∧
      (pushedBytes is).length = 7 ∧ 7 ≤ 2 ^ w - 1 ∧ (scan (pushedBytes is)).length = 1 :=
  ⟨3, [.pushByte 0 0xFF#8, .pushByte 0 0xFF#8, .decodeWord 0xFFFB1400#32, .pushByte 0 0xFF#8, .pushByte 0 0xFF#8,
    .pushByte 0 0xFB#8, .pushByte 0 0x14#8, .pushByte 0 0x00#8], by decide, by decide, by decide, by decide,
    by decide⟩

theorem witness_StepRunsTheDecodedCommand :
    ∃ (s : State) (rest : List Pins) (i : Instr),
      s.inputs = ⟨some false, some 0b01#2, some 0xFFFB90#24, some 0x44#8⟩ :: rest ∧
        decode (.cmd34 (0b01#2 ++ (0xFFFB90#24 ++ 0x44#8))) = .ok i :=
  ⟨{ State.reset with inputs := [⟨some false, some 0b01#2, some 0xFFFB90#24, some 0x44#8⟩] }, _, _, rfl, rfl⟩

theorem witness_StepRunsEveryPresentedInstruction :
    ∃ (s : State) (i : Instr) (rest : List Pins), i.wellFormed = true ∧ s.inputs = Pins.ofInstr i :: rest :=
  ⟨{ State.reset with inputs := [Pins.ofInstr (.hdrRejSyncH10 0xFFDFFFFF#32)] }, .hdrRejSyncH10 0xFFDFFFFF#32, [],
    by decide, rfl⟩

theorem witness_FetchedTableWordRuns :
    (∃ i, decodeTableWord 40 0x3FFFFFFFF = some i) ∧ (∃ i, decodeTableWord 32 0xFFFFFFFF = some i) :=
  ⟨⟨.clear 0xFFFFFFFF#32, by decide⟩, ⟨.hdrRejVlVer11Lay1x 0xFFFFFFFF#32, by decide⟩⟩

/-- No cycle; every form of a defined cycle; every form of an undefined one. -/
theorem witness_StepStopsOnlyOnUndefinedInputs :
    State.reset.inputs = [] ∧
    (∀ p ∈ [(⟨some true, some 2, none, none⟩ : Pins), ⟨some false, some 0, none, none⟩,
      ⟨some false, some 3, none, none⟩, ⟨some false, some 2, none, some 0⟩, ⟨some false, some 1, some 0, some 0⟩], p.defined) ∧
    ∀ p ∈ [(⟨none, some 0, some 0, some 0⟩ : Pins), ⟨some true, none, some 0, some 0⟩, ⟨some false, none, some 0, some 0⟩,
      ⟨some false, some 2, some 0, none⟩, ⟨some false, some 1, none, some 0⟩, ⟨some false, some 1, some 0, none⟩],
      ¬ p.defined := by
  unfold Pins.defined; decide

/-- Also for RNewMarksEvaluatingCycles and StepKeepsTheInvariant: an evaluating cycle and a reset cycle. -/
theorem witness_StepIgnoresLaterCycles :
    (∃ t, step { scanning 3 6 0x44FFFB90#32 with inputs := [Pins.ofInstr (.pushByte 0 0x44#8)] } = .next t ∧
      t.rNew = true) ∧
    ∃ t, step { scanning 3 6 0x44FFFB90#32 with inputs := [Pins.resetCycle] } = .next t ∧ t.rNew = false :=
  ⟨⟨_, rfl, by decide⟩, ⟨_, rfl, by decide⟩⟩

theorem witness_OnlyPushAndClearChangeTheScanState :
    ∃ t, isPush (.decodeWord 0) = false ∧ isClear (.decodeWord 0) = false ∧
      exec (.decodeWord 0) (scanning 3 6 0x44FFFB90#32) = .next t := ⟨_, rfl, rfl, rfl⟩

/-- NOP, and a push that evaluates nothing. -/
theorem witness_ResultsHoldUntilTheNextEvaluation :
    (∃ t, ¬ evaluates (.nop 0) State.reset ∧ isClear (.nop 0) = false ∧ exec (.nop 0) State.reset = .next t) ∧
    ∃ t, ¬ evaluates (.pushByte 0 0xFF#8) State.reset ∧ isClear (.pushByte 0 0xFF#8) = false ∧
      exec (.pushByte 0 0xFF#8) State.reset = .next t :=
  ⟨⟨_, id, rfl, rfl⟩, ⟨_, by unfold evaluates State.candidate; decide, rfl, rfl⟩⟩

theorem witness_ResetMeetsTheInvariant : Config.minOffsetW ≤ 3 := by decide

/-- The smallest width, and a reachable state with a scan result. -/
theorem witness_ReachableStatesMeetTheBounds :
    Config.minOffsetW ≤ 3 ∧
      ∃ t ∈ trace 4 { State.resetOf 3 with inputs := (Line.pushWord 0xFFFB9044#32).cycles },
        t.rScan = true ∧ t.rValid = true ∧ t.rOffset + 4 = t.pos := by decide

theorem witness_StepKeepsTheInvariant :
    ∃ s t : State, s.Inv ∧ step s = .next t :=
  ⟨{ scanning 3 6 0x44FFFB90#32 with inputs := [Pins.ofInstr (.pushByte 0 0x44#8)] }, _,
    by constructor <;> decide, rfl⟩

end Sys2Proof.Tests
end

section
/-! ### The invariant under each operation on the state (spec/10_state.md R22, R25, R27) -/

namespace Sys2Proof.Laws

open Sys2Proof.Machine

/-- A state right after reset meets the invariant, with any cycles to come. -/
theorem resetOf_inv {w : Nat} (hw : Config.minOffsetW ≤ w) (inputs : List Pins) :
    { State.resetOf w with inputs := inputs }.Inv where
  width := hw
  posFits := Nat.two_pow_pos w
  fillIsMin := rfl
  winIsFresh := Nat.zero_lt_one
  countBound := .inl rfl
  offsetBound := nofun
  offsetOfWord _ := rfl
  ovfMeansFull := nofun
  newIsValid := nofun
  beforeFirst _ := ⟨rfl, rfl, rfl, rfl, rfl, rfl, rfl⟩
  reasonCode := ⟨Nat.zero_le 5, nofun⟩
  rejectedIsZero _ := ⟨rfl, rfl, rfl, rfl⟩
  acceptedFits := nofun

theorem resetEdge_inv {s : State} (h : s.Inv) : s.resetEdge.Inv := resetOf_inv h.width s.inputs

theorem clearAll_inv {s : State} (h : s.Inv) : s.clearAll.Inv :=
  State.resetEdge_eq_clearAll s ▸ resetEdge_inv h

/-- The cycles to come are no part of the invariant. -/
theorem withInputs_inv {s : State} (h : s.Inv) (rest : List Pins) : { s with inputs := rest }.Inv :=
  { h with width := h.width }

theorem endPulse_inv {s : State} (h : s.Inv) : s.endPulse.Inv := { h with newIsValid := nofun }

theorem dropByte_inv {s : State} (h : s.Inv) (full : s.pos = 2 ^ s.offsetW - 1) : s.dropByte.Inv :=
  { h with ovfMeansFull := fun _ => full, newIsValid := nofun }

/-! ### A byte shifted in -/

/-- The three bits of FILL hold `min(FILL + 1, 4)`. -/
theorem shiftIn_fill_toNat (s : State) (b : Byte) :
    (s.shiftIn b).fill.toNat = min (s.fill.toNat + 1) 4 := by
  rw [State.shiftIn_fill, BitVec.toNat_ofNat, State.nextFill]
  omega

/-- POS counts the byte as long as it is not full. -/
theorem shiftIn_pos_of_room {s : State} (h : s.pos < 2 ^ s.offsetW) (room : s.pos ≠ 2 ^ s.offsetW - 1) (b : Byte) :
    (s.shiftIn b).pos = s.pos + 1 :=
  narrow_of_lt (by omega)

/-- Shifting a byte in keeps the zeros of WIN above the bytes pushed. -/
theorem shiftIn_winIsFresh {s : State} (h : s.win.toNat < 2 ^ (8 * s.fill.toNat)) (b : Byte) :
    (s.shiftIn b).win.toNat < 2 ^ (8 * (s.shiftIn b).fill.toNat) := by
  have hb := b.isLt
  rw [shiftIn_fill_toNat]
  rcases Nat.lt_or_ge s.fill.toNat 4 with few | four
  · have fill : 8 * min (s.fill.toNat + 1) 4 = 8 * s.fill.toNat + 8 := by omega
    rw [State.shiftIn_win, shiftWindow_toNat, fill, Nat.pow_add]
    omega
  · rw [Nat.min_eq_right (by omega)]
    exact (s.shiftIn b).win.isLt

/-- With room in POS a push keeps the invariant, before its result is written. -/
theorem shiftIn_inv {s : State} (h : s.Inv) (room : s.pos ≠ 2 ^ s.offsetW - 1) (b : Byte) : (s.shiftIn b).Inv := by
  have fits := h.posFits
  have pos := shiftIn_pos_of_room fits room b
  have fill := shiftIn_fill_toNat s b
  refine { h with
    posFits := ?_, fillIsMin := ?_, winIsFresh := shiftIn_winIsFresh h.winIsFresh b,
    countBound := ?_, offsetBound := ?_, ovfMeansFull := ?_ }
  · rw [pos, State.shiftIn_offsetW]
    omega
  · rw [fill, pos, h.fillIsMin]
    omega
  · rw [pos, State.shiftIn_frameCount]
    exact h.countBound.imp_right fun bound => by omega
  · intro valid scan
    have bound := h.offsetBound valid scan
    rw [pos, State.shiftIn_rOffset]
    omega
  · exact fun ovf => absurd (h.ovfMeansFull ovf) room

/-! ### A result written -/

/-- R_REASON of a result is one of the codes 0 to 5. -/
theorem reasonCode_le (res : DecodeResult) : res.reasonCode.toNat ≤ 5 := by
  rcases res with d | r
  · exact Nat.zero_le 5
  · cases r <;> decide

/-- R_ACCEPT and R_REASON of a result agree. -/
theorem isAccept_iff_reasonCode (res : DecodeResult) : res.isAccept = true ↔ res.reasonCode = 0 := by
  rcases res with d | r
  · exact iff_of_true rfl rfl
  · cases r <;> decide

/-- The frame size of a listed bitrate and sampling rate fits nine bits. -/
theorem frameSize_lt {bri : BitVec 4} {sri : BitVec 2} {kbps hz : Nat} (hb : bitrateEntry bri = .kbps kbps)
    (hs : srateEntry sri = some hz) (pad : Bool) : frameSize kbps hz pad < 2 ^ 9 := by
  obtain ⟨-, -, -, kbps_le⟩ := bitrateEntry_kbps hb
  obtain ⟨-, rate⟩ := srateEntry_some hs
  have pad_le := pad.toNat_le
  simp only [frameSize, samplesPerFrame]
  rcases rate with rfl | rfl | rfl <;> omega

/-- The registers hold the descriptor of an accepted window without truncation (42_frame_size.md R153). -/
theorem accepted_descriptor_fits {w : Word} {d : Descriptor} (h : decodeWindow w = .accept d) :
    d.bitrateKbps < 2 ^ 9 ∧ d.samplingRateHz < 2 ^ 16 ∧ d.frameSizeBytes < 2 ^ 9 := by
  obtain ⟨kbps, hz, rfl, -, -, -, bitrate, srate⟩ := decodeWindow_accept h
  obtain ⟨-, -, -, kbps_le⟩ := bitrateEntry_kbps bitrate
  obtain ⟨-, rate⟩ := srateEntry_some srate
  refine ⟨?_, ?_, frameSize_lt bitrate srate _⟩ <;> simp only [descriptor] <;> omega

/-- The result of `Decode` on a window keeps the invariant when the offset is one of a scanned window, or 0 for
DECODE_WORD. -/
theorem writeResult_inv {s : State} (h : s.Inv) (w : Word) {off : Nat} {scan : Bool}
    (scanned : scan = true → off + 4 ≤ s.pos) (word : scan = false → off = 0) :
    (s.writeResult (decodeWindow w) w off scan).Inv := by
  have fits : s.narrow off = off := narrow_of_lt <| by
    have := h.posFits
    cases scan
    · rw [word rfl]; omega
    · have := scanned rfl; omega
  constructor
  case width => simpa using h.width
  case posFits => simpa using h.posFits
  case fillIsMin => simpa using h.fillIsMin
  case winIsFresh => simpa using h.winIsFresh
  case countBound => simpa using h.countBound
  case offsetBound => simpa [fits] using scanned
  case offsetOfWord => simpa [fits] using word
  case ovfMeansFull => simpa using h.ovfMeansFull
  case newIsValid => simp
  case beforeFirst => simp
  case reasonCode => simpa using ⟨reasonCode_le _, isAccept_iff_reasonCode _⟩
  case rejectedIsZero =>
    rcases decodeWindow w with d | r
    · simp [DecodeResult.isAccept]
    · simp
  case acceptedFits =>
    rcases hd : decodeWindow w with d | r
    · obtain ⟨kbps_lt, hz_lt, size_lt⟩ := accepted_descriptor_fits hd
      obtain ⟨kbps, hz, rfl, -, ver, lay, bitrate, srate⟩ := decodeWindow_accept hd
      simp only [State.writeResult_rVer, State.writeResult_rLay, State.writeResult_rBrIdx, State.writeResult_rSrIdx,
        State.writeResult_accept_rBitrate, State.writeResult_accept_rSrate, State.writeResult_accept_rPadded,
        State.writeResult_accept_rFsize, BitVec.toNat_ofNat, Nat.mod_eq_of_lt kbps_lt, Nat.mod_eq_of_lt hz_lt,
        Nat.mod_eq_of_lt size_lt]
      exact fun _ => ⟨ver, lay, bitrate, srate, rfl⟩
    · simp [DecodeResult.isAccept]

/-- Counting a record keeps the invariant while FRAME_COUNT is at least four below POS. -/
theorem countRecord_inv {s : State} (h : s.Inv) (room : s.frameCount + 4 ≤ s.pos) (res : DecodeResult) :
    (s.countRecord res).Inv := by
  rcases res with d | r
  · refine { h with countBound := .inr ?_ }
    have fits := h.posFits
    rw [State.countRecord_accept_frameCount, State.countRecord_pos, narrow_of_lt (by omega)]
    omega
  · exact h

/-- A push that completes a candidate keeps the invariant. -/
theorem evaluateCandidate_inv {s : State} (h : s.Inv) (room : s.pos ≠ 2 ^ s.offsetW - 1) {b : Byte}
    (cand : s.candidate b) : (s.evaluateCandidate b).Inv := by
  have three := three_le_pos h.fillIsMin cand
  have pos := shiftIn_pos_of_room h.posFits room b
  rw [evaluateCandidate_eq, candidateOffset_of_fits h.posFits three]
  refine countRecord_inv (writeResult_inv (scan := true) (shiftIn_inv h room b) _ (fun _ => ?_) nofun) ?_ _
  · rw [pos]
    omega
  · rw [State.writeResult_frameCount, State.writeResult_pos, State.shiftIn_frameCount, pos]
    have := h.countBound
    omega

/-! ### What an instruction and a step leave -/

/-- Everything an instruction can leave, by the state it leaves. -/
theorem exec_next_cases {s t : State} {i : Instr} (next : exec i s = .next t) :
    (∃ d, i = .nop d ∧ t = s.endPulse) ∨
    (∃ d, i = .clear d ∧ t = s.clearAll) ∨
    (∃ g b, i = .pushByte g b ∧
      ((s.pos = 2 ^ s.offsetW - 1 ∧ t = s.dropByte) ∨
       (s.pos ≠ 2 ^ s.offsetW - 1 ∧ s.candidate b ∧ t = s.evaluateCandidate b) ∨
       (s.pos ≠ 2 ^ s.offsetW - 1 ∧ ¬ s.candidate b ∧ t = (s.shiftIn b).endPulse))) ∨
    (isPush i = false ∧ isClear i = false ∧ evaluates i s ∧
      ∃ res w, t = s.writeResult res w 0 false ∧
        ((i = .decodeWord w ∧ res = decodeWindow w) ∨ ∃ h, i.header = some (h, w))) := by
  have result : ∀ {u}, exec i s = .next u → t = u := fun run => by cases next.symm.trans run; rfl
  rcases exec_cases i s with ⟨d, rfl, run⟩ | ⟨d, rfl, run⟩ |
      ⟨g, b, rfl, ⟨full, run⟩ | ⟨room, cand, run⟩ | ⟨room, cand, run⟩⟩ | ⟨push, clear, ev, res, w, run, origin⟩
  · exact .inl ⟨d, rfl, result run⟩
  · exact .inr (.inl ⟨d, rfl, result run⟩)
  · exact .inr (.inr (.inl ⟨g, b, rfl, .inl ⟨full, result run⟩⟩))
  · exact .inr (.inr (.inl ⟨g, b, rfl, .inr (.inl ⟨room, cand, result run⟩)⟩))
  · exact .inr (.inr (.inl ⟨g, b, rfl, .inr (.inr ⟨room, cand, result run⟩)⟩))
  · exact .inr (.inr (.inr ⟨push, clear, ev, res, w, result (run s), origin⟩))

/-- Each of the four commands keeps the invariant. -/
theorem exec_command_inv {s t : State} {i : Instr} (h : s.Inv) (command : i.header = none)
    (next : exec i s = .next t) : t.Inv := by
  rcases exec_next_cases next with ⟨_, -, rfl⟩ | ⟨_, -, rfl⟩ |
      ⟨_, b, -, ⟨full, rfl⟩ | ⟨room, cand, rfl⟩ | ⟨room, -, rfl⟩⟩ | ⟨-, -, -, res, w, rfl, origin⟩
  · exact endPulse_inv h
  · exact clearAll_inv h
  · exact dropByte_inv h full
  · exact evaluateCandidate_inv h room cand
  · exact endPulse_inv (shiftIn_inv h room b)
  · rcases origin with ⟨-, rfl⟩ | ⟨_, header⟩
    · exact writeResult_inv h w nofun fun _ => rfl
    · cases command.symm.trans header

end Sys2Proof.Laws

open Sys2Proof.Machine Sys2Proof.Laws

/-- Settles O51: a reset edge gives the reset state, and any other cycle runs one of the four commands. -/
theorem stepKeepsTheInvariant : Obligations.StepKeepsTheInvariant := by
  intro s t h next
  obtain ⟨p, rest, -, ⟨-, rfl⟩ | ⟨i, request, run⟩⟩ := step_next next
  · exact resetEdge_inv (withInputs_inv h rest)
  · exact exec_command_inv (withInputs_inv h rest) (request_is_command request) run

/-- Settles O50: every clause of the invariant holds of zeros. -/
theorem resetMeetsTheInvariant : Obligations.ResetMeetsTheInvariant :=
  ⟨resetOf_inv (by decide) [], fun _ inputs hw => resetOf_inv hw inputs⟩

end

section
/-! ### Results, records and POS after one instruction (spec/10_state.md R21, R24, R25, R26) -/

namespace Sys2Proof.Laws

open Sys2Proof.Machine

/-- What `evaluates` says of a push. -/
@[simp] theorem evaluates_pushByte {s : State} {g : BitVec 24} {b : Byte} :
    evaluates (.pushByte g b) s ↔ s.pos ≠ 2 ^ s.offsetW - 1 ∧ s.candidate b := Iff.rfl

/-- Which commands evaluate does not depend on the cycles to come. -/
theorem evaluates_withInputs {i : Instr} {s : State} {rest : List Pins} :
    evaluates i { s with inputs := rest } ↔ evaluates i s := Iff.rfl

/-- A push that evaluates runs the evaluation of its candidate. -/
theorem exec_pushByte_of_evaluates {s : State} {g : BitVec 24} {b : Byte} (ev : evaluates (.pushByte g b) s) :
    exec (.pushByte g b) s = .next (s.evaluateCandidate b) := by
  obtain ⟨room, cand⟩ := ev
  exact (if_neg room).trans (if_pos ((completesCandidate_iff s b).mpr cand))

@[simp] theorem evaluateCandidate_pos (s : State) (b : Byte) : (s.evaluateCandidate b).pos = (s.shiftIn b).pos := by
  simp [State.evaluateCandidate]

@[simp] theorem evaluateCandidate_rNew (s : State) (b : Byte) : (s.evaluateCandidate b).rNew = true := by
  simp [State.evaluateCandidate]

/-- R_NEW after an instruction says whether it evaluated a window. -/
theorem exec_rNew_iff {s t : State} {i : Instr} (next : exec i s = .next t) : t.rNew = true ↔ evaluates i s := by
  rcases exec_next_cases next with ⟨_, rfl, rfl⟩ | ⟨_, rfl, rfl⟩ |
      ⟨_, b, rfl, ⟨full, rfl⟩ | ⟨room, cand, rfl⟩ | ⟨-, noCand, rfl⟩⟩ | ⟨-, -, ev, res, w, rfl, -⟩
  · exact iff_of_false nofun id
  · exact iff_of_false nofun id
  · exact iff_of_false nofun fun ev => ev.1 full
  · exact iff_of_true (evaluateCandidate_rNew s b) ⟨room, cand⟩
  · exact iff_of_false nofun fun ev => noCand ev.2
  · exact iff_of_true (State.writeResult_rNew ..) ev

/-- A cycle with `rst` = 1 runs no instruction. -/
theorem request_of_rst {p : Pins} (rst : p.rst = some true) (i : Instr) : p.request ≠ .run i := by
  rw [Pins.request, rst]
  cases p.cmd <;> nofun

/-- A cycle with `rst` = 1 and a defined `cmd` is a reset edge, whatever `din` is. -/
theorem request_reset {p : Pins} (rst : p.rst = some true) (cmd : p.cmd.isSome = true) : p.request = .reset := by
  obtain ⟨c, cmd⟩ := Option.isSome_iff_exists.mp cmd
  rw [Pins.request, rst, cmd]

/-! ### The record presented -/

@[simp] theorem countRecord_record (s : State) (res : DecodeResult) : (s.countRecord res).record = s.record := by
  cases res <;> rfl

/-- R_SPF is the constant of the source's descriptor. -/
@[simp] theorem rSpf_toNat (s : State) : s.rSpf.toNat = samplesPerFrame := rfl

/-- An accepted scan window is presented as a record of its offset and its whole descriptor. -/
theorem writeResult_record_of_accept {s : State} {w : Word} {d : Descriptor} (acc : decodeWindow w = .accept d)
    {off : Nat} (fits : off < 2 ^ s.offsetW) :
    (s.writeResult (.accept d) w off true).record = some (off, d) := by
  obtain ⟨kbps_lt, hz_lt, size_lt⟩ := accepted_descriptor_fits acc
  obtain ⟨kbps, hz, rfl, -⟩ := decodeWindow_accept acc
  have presented : (s.writeResult (.accept (descriptor kbps hz (hdrPadded w))) w off true).recOut = true := rfl
  rw [State.record, if_pos presented]
  simp only [State.writeResult_rOffset, State.writeResult_accept_rBitrate, State.writeResult_accept_rSrate,
    State.writeResult_accept_rPadded, State.writeResult_accept_rFsize, rSpf_toNat, narrow_of_lt fits,
    BitVec.toNat_ofNat, Nat.mod_eq_of_lt kbps_lt, Nat.mod_eq_of_lt hz_lt, Nat.mod_eq_of_lt size_lt]
  rfl

/-- The record after a push that evaluates: there is one exactly when the window is accepted. -/
theorem evaluateCandidate_record_iff {s : State} (h : s.Inv) {b : Byte} (cand : s.candidate b)
    (entry : Nat × Descriptor) :
    (s.evaluateCandidate b).record = some entry ↔
      ∃ d, decodeWindow (s.pushedWindow b) = .accept d ∧ entry = (s.pos - 3, d) := by
  have three := three_le_pos h.fillIsMin cand
  have fits : s.pos - 3 < 2 ^ (s.shiftIn b).offsetW := Nat.lt_of_le_of_lt (Nat.sub_le ..) h.posFits
  rw [evaluateCandidate_eq, candidateOffset_of_fits h.posFits three, countRecord_record]
  rcases hd : decodeWindow (s.pushedWindow b) with d | r
  · rw [writeResult_record_of_accept hd fits]
    simp [eq_comm]
  · rw [record_of_not_accept (State.writeResult_rAccept ..)]
    simp

/-- An instruction that presents a record is a push that evaluates. -/
theorem evaluating_push_of_record {s t : State} {i : Instr} {entry : Nat × Descriptor} (next : exec i s = .next t)
    (record : t.record = some entry) :
    ∃ g b, i = .pushByte g b ∧ evaluates i s := by
  have ev : evaluates i s := (exec_rNew_iff next).mp <| by
    by_contra old
    cases (record_of_not_new (Bool.eq_false_iff.mpr old)).symm.trans record
  rcases exec_next_cases next with ⟨_, rfl, -⟩ | ⟨_, rfl, -⟩ | ⟨g, b, rfl, -⟩ | ⟨-, -, -, res, w, rfl, -⟩
  · exact ev.elim
  · exact ev.elim
  · exact ⟨g, b, rfl, ev⟩
  · cases (record_of_not_scan (State.writeResult_rScan ..)).symm.trans record

/-! ### POS -/

/-- A push with room adds one to POS, up to the largest value. -/
theorem shiftIn_pos_eq_min {s : State} (h : s.Inv) (room : s.pos ≠ 2 ^ s.offsetW - 1) (b : Byte) :
    (s.shiftIn b).pos = min (s.pos + 1) (2 ^ s.offsetW - 1) := by
  have fits := h.posFits
  rw [shiftIn_pos_of_room fits room b]
  omega

/-- POS after a push. -/
theorem pushByte_pos {s t : State} {g : BitVec 24} {b : Byte} (h : s.Inv)
    (next : exec (.pushByte g b) s = .next t) : t.pos = min (s.pos + 1) (2 ^ s.offsetW - 1) := by
  rcases exec_next_cases next with ⟨_, ⟨⟩, -⟩ | ⟨_, ⟨⟩, -⟩ |
      ⟨_, _, ⟨⟩, ⟨full, rfl⟩ | ⟨room, -, rfl⟩ | ⟨room, -, rfl⟩⟩ | ⟨⟨⟩, -⟩
  · rw [State.dropByte_pos]
    omega
  · rw [evaluateCandidate_pos, shiftIn_pos_eq_min h room]
  · rw [State.endPulse_pos, shiftIn_pos_eq_min h room]

end Sys2Proof.Laws

open Sys2Proof.Machine Sys2Proof.Laws

/-- Settles O29, by what each instruction leaves in POS; a reset cycle leaves the reset state. -/
theorem posAdvancesByOnePerPush : Obligations.PosAdvancesByOnePerPush := by
  refine ⟨fun s t i h next => ?_, fun s t p rest inputs rst next => ?_⟩
  · rcases exec_next_cases next with ⟨_, rfl, rfl⟩ | ⟨_, rfl, rfl⟩ | ⟨_, _, rfl, -⟩ |
        ⟨push, clear, -, res, w, rfl, -⟩
    · exact ⟨nofun, nofun, fun _ _ => rfl⟩
    · exact ⟨nofun, fun _ => rfl, nofun⟩
    · exact ⟨fun _ => pushByte_pos h next, nofun, nofun⟩
    · simp [push, clear]
  · obtain ⟨q, _, cycles, ⟨-, rfl⟩ | ⟨i, request, -⟩⟩ := step_next next
    · rfl
    · cases inputs.symm.trans cycles
      exact absurd request (request_of_rst rst i)

/-- Settles O32: only a push that evaluates sets R_NEW and R_SCAN together, and its record is the accepted window's. -/
theorem recordsAreAcceptedScanWindows : Obligations.RecordsAreAcceptedScanWindows := by
  intro s t i entry h next
  constructor
  · intro record
    obtain ⟨g, b, rfl, ev⟩ := evaluating_push_of_record next record
    cases (exec_pushByte_of_evaluates ev).symm.trans next
    obtain ⟨d, acc, rfl⟩ := (evaluateCandidate_record_iff h ev.2 entry).mp record
    exact ⟨g, b, d, rfl, ev, acc, rfl⟩
  · rintro ⟨g, b, d, rfl, ev, acc, rfl⟩
    cases (exec_pushByte_of_evaluates ev).symm.trans next
    exact (evaluateCandidate_record_iff h ev.2 _).mpr ⟨d, acc, rfl⟩

/-- Settles O44: a reset edge runs no command, and R_NEW after an instruction says whether it evaluated. -/
theorem rNewMarksEvaluatingCycles : Obligations.RNewMarksEvaluatingCycles := by
  intro s t p rest inputs next
  obtain ⟨q, rest', cycles, step⟩ := step_next next
  cases inputs.symm.trans cycles
  rcases step with ⟨request, rfl⟩ | ⟨i, request, run⟩
  · simp [request]
  · simp [request, exec_rNew_iff run, evaluates_withInputs]

/-- Settles O46: what evaluates nothing is CLEAR, or ends the pulse and at most drops or shifts in a byte. -/
theorem resultsHoldUntilTheNextEvaluation : Obligations.ResultsHoldUntilTheNextEvaluation := by
  intro s t i noEval noClear next
  refine ⟨?_, Bool.eq_false_iff.mpr fun new => noEval ((exec_rNew_iff next).mp new)⟩
  rcases exec_next_cases next with ⟨_, -, rfl⟩ | ⟨_, rfl, -⟩ |
      ⟨_, _, rfl, ⟨-, rfl⟩ | ⟨room, cand, -⟩ | ⟨-, -, rfl⟩⟩ | ⟨-, -, ev, -⟩
  · rfl
  · cases noClear
  · rfl
  · exact absurd ⟨room, cand⟩ noEval
  · rfl
  · exact absurd ev noEval

/-- Settles O3: the reset edge keeps only OFFSET_W and the cycles to come, here 32 and none. -/
theorem stateResetIsWhatAResetCycleLeaves : Obligations.StateResetIsWhatAResetCycleLeaves := by
  refine ⟨rfl, fun s p width inputs rst cmd => ?_⟩
  rw [step_cons inputs, request_reset rst cmd]
  simp only [State.resetEdge, width]
  rfl

/-- Settles O5: each port is a projection, and R_SPF reads the constant 384. -/
theorem outputPortsShowTheRegisters : Obligations.OutputPortsShowTheRegisters := fun _ => rfl

end

section
/-! ### What an instruction leaves of the cycles to come and of the scan state (spec/20_memory.md R54, R57) -/

namespace Sys2Proof.Laws

open Sys2Proof.Machine

/-- With POS full a push drops its byte. -/
theorem exec_pushByte_of_full {s : State} (full : s.pos = 2 ^ s.offsetW - 1) (g : BitVec 24) (b : Byte) :
    exec (.pushByte g b) s = .next s.dropByte := if_pos full

/-- With room in POS a push that completes no candidate shifts its byte in. -/
theorem exec_pushByte_of_not_candidate {s : State} (room : s.pos ≠ 2 ^ s.offsetW - 1) {b : Byte}
    (noCand : ¬ s.candidate b) (g : BitVec 24) : exec (.pushByte g b) s = .next (s.shiftIn b).endPulse :=
  (if_neg room).trans (if_neg fun done => noCand ((completesCandidate_iff s b).mp done))

theorem writeResult_withInputs (s : State) (res : DecodeResult) (w : Word) (off : Nat) (scan : Bool)
    (l : List Pins) : { s with inputs := l }.writeResult res w off scan =
      { s.writeResult res w off scan with inputs := l } := by
  cases res <;> rfl

theorem evaluateCandidate_withInputs (s : State) (b : Byte) (l : List Pins) :
    { s with inputs := l }.evaluateCandidate b = { s.evaluateCandidate b with inputs := l } := by
  simp only [State.evaluateCandidate]
  cases decodeWindow (shiftWindow s.win b) <;> rfl

/-- An instruction does the same whatever cycles are to come, and hands them on. -/
theorem exec_withInputs {s t : State} {i : Instr} (next : exec i s = .next t) (l : List Pins) :
    exec i { s with inputs := l } = .next { t with inputs := l } := by
  rcases exec_cases i s with ⟨_, rfl, run⟩ | ⟨_, rfl, run⟩ |
      ⟨g, b, rfl, ⟨full, run⟩ | ⟨room, cand, run⟩ | ⟨room, noCand, run⟩⟩ | ⟨-, -, -, res, w, run, -⟩
  · cases run.symm.trans next; rfl
  · cases run.symm.trans next; rfl
  · cases run.symm.trans next
    exact exec_pushByte_of_full (s := { s with inputs := l }) full g b
  · cases run.symm.trans next
    rw [← evaluateCandidate_withInputs]
    exact exec_pushByte_of_evaluates (s := { s with inputs := l }) ⟨room, cand⟩
  · cases run.symm.trans next
    exact exec_pushByte_of_not_candidate (s := { s with inputs := l }) room noCand g
  · cases (run s).symm.trans next
    rw [run, writeResult_withInputs]

/-- An instruction takes none of the cycles to come. -/
theorem exec_inputs {s t : State} {i : Instr} (next : exec i s = .next t) : t.inputs = s.inputs := by
  have same := Host.Outcome.next.inj ((exec_withInputs next s.inputs).symm.trans next)
  exact (congrArg State.inputs same).symm

end Sys2Proof.Laws

open Sys2Proof.Machine Sys2Proof.Laws

/-- Settles O43: a reset edge and an instruction both hand on the cycles to come, and do not read them. -/
theorem stepIgnoresLaterCycles : Obligations.StepIgnoresLaterCycles := by
  intro s t p rest rest' next
  obtain ⟨_, _, ⟨⟩, ⟨request, rfl⟩ | ⟨i, request, run⟩⟩ := step_next next
  · refine ⟨rfl, ?_⟩
    rw [step_cons rfl, request]
    rfl
  · refine ⟨exec_inputs run, ?_⟩
    rw [step_cons rfl, request]
    exact exec_withInputs run rest'

/-- Settles O45: NOP only ends the pulse, and every other such instruction only writes a result. -/
theorem onlyPushAndClearChangeTheScanState : Obligations.OnlyPushAndClearChangeTheScanState := by
  intro s t i noPush noClear next
  rcases exec_next_cases next with ⟨_, -, rfl⟩ | ⟨_, rfl, -⟩ | ⟨_, _, rfl, -⟩ | ⟨-, -, -, res, w, rfl, -⟩
  · exact ⟨rfl, rfl, rfl, rfl, rfl, rfl, rfl⟩
  · cases noClear
  · cases noPush
  · simp

end

section
/-! ### Bytes pushed one after the other (spec/20_memory.md R51, spec/44_stream_scanner.md R193) -/

namespace Sys2Proof.Laws

open Sys2Proof.Machine

@[simp] theorem evaluateCandidate_offsetW (s : State) (b : Byte) : (s.evaluateCandidate b).offsetW = s.offsetW := by
  simp [State.evaluateCandidate]

@[simp] theorem evaluateCandidate_win (s : State) (b : Byte) : (s.evaluateCandidate b).win = shiftWindow s.win b := by
  simp [State.evaluateCandidate]

@[simp] theorem evaluateCandidate_ovf (s : State) (b : Byte) : (s.evaluateCandidate b).ovf = s.ovf := by
  simp [State.evaluateCandidate]

/-- The cycle of a push runs it. -/
theorem step_pushByte {s : State} {g : BitVec 24} {b : Byte} {rest : List Pins}
    (inputs : s.inputs = Pins.ofInstr (.pushByte g b) :: rest) :
    step s = exec (.pushByte g b) { s with inputs := rest } := by
  rw [step_cons inputs, request_ofInstr]
  rfl

/-- What the bytes `bs`, pushed one after the other with room in POS, make of the state `s`, results aside. -/
structure Scanned (s : State) (bs : List Byte) (t : State) : Prop where
  inv : t.Inv
  offsetW : t.offsetW = s.offsetW
  pos : t.pos = s.pos + bs.length
  win : t.win = bs.foldl shiftWindow s.win
  ovf : t.ovf = s.ovf

theorem Scanned.cons {s t u : State} {b : Byte} {bs : List Byte} (first : Scanned s [b] t)
    (later : Scanned t bs u) : Scanned s (b :: bs) u where
  inv := later.inv
  offsetW := later.offsetW.trans first.offsetW
  pos := by rw [later.pos, first.pos, Nat.add_assoc, Nat.add_comm [b].length]; rfl
  win := by rw [later.win, first.win]; rfl
  ovf := later.ovf.trans first.ovf

/-- The cycles to come are no part of what was scanned. -/
theorem Scanned.withInputs {s t : State} {bs : List Byte} (h : Scanned s bs t) (l : List Pins) :
    Scanned s bs { t with inputs := l } :=
  ⟨withInputs_inv h.inv l, h.offsetW, h.pos, h.win, h.ovf⟩

/-- With room in POS a push takes its byte, whether or not it completes a candidate. -/
theorem exec_pushByte_scanned {s : State} (h : s.Inv) (room : s.pos ≠ 2 ^ s.offsetW - 1) (g : BitVec 24) (b : Byte) :
    ∃ t, exec (.pushByte g b) s = .next t ∧ Scanned s [b] t := by
  have pos := shiftIn_pos_of_room h.posFits room b
  by_cases cand : s.candidate b
  · exact ⟨_, exec_pushByte_of_evaluates ⟨room, cand⟩, evaluateCandidate_inv h room cand, by simp,
      (evaluateCandidate_pos s b).trans pos, by simp, by simp⟩
  · exact ⟨_, exec_pushByte_of_not_candidate room cand g, endPulse_inv (shiftIn_inv h room b), rfl, pos, rfl, rfl⟩

/-- The step of a push with room in POS. -/
theorem step_pushByte_scanned {s : State} {g : BitVec 24} {b : Byte} {rest : List Pins} (h : s.Inv)
    (room : s.pos ≠ 2 ^ s.offsetW - 1) (inputs : s.inputs = Pins.ofInstr (.pushByte g b) :: rest) :
    ∃ t, step s = .next t ∧ Scanned s [b] t ∧ t.inputs = rest := by
  obtain ⟨t, run, scanned⟩ := exec_pushByte_scanned h room g b
  exact ⟨_, (step_pushByte inputs).trans (exec_withInputs run rest), scanned.withInputs rest, rfl⟩

/-- Pushes that fit into POS all take a step, and the steps after them start in a state that has scanned them. -/
theorem pushBytes_scanned {rest : List Pins} (bs : List Byte) {s : State} (h : s.Inv)
    (fits : s.pos + bs.length ≤ 2 ^ s.offsetW - 1) (inputs : s.inputs = (Line.pushBytes bs).cycles ++ rest) :
    ∃ t, Scanned s bs t ∧ t.inputs = rest ∧ ∀ k,
      (trace (bs.length + k) s).length = bs.length + (trace k t).length ∧
        finalState (bs.length + k) s = finalState k t := by
  induction bs generalizing s with
  | nil => exact ⟨s, ⟨h, rfl, rfl, rfl, rfl⟩, inputs, fun k => by simp⟩
  | cons b bs ih =>
    rw [List.length_cons] at fits
    obtain ⟨t, stepped, first, inputs⟩ := step_pushByte_scanned h (by omega) inputs
    have pos : t.pos = s.pos + 1 := first.pos
    obtain ⟨u, later, inputs, runs⟩ := ih first.inv (by rw [pos, first.offsetW]; omega) inputs
    refine ⟨u, first.cons later, inputs, fun k => ?_⟩
    obtain ⟨length, final⟩ := runs k
    rw [List.length_cons, Nat.add_right_comm, trace_next stepped, finalState_next stepped, List.length_cons, length]
    exact ⟨by omega, final⟩

/-- The four bytes of a word, first byte first, fill the window with it. -/
theorem foldl_shiftWindow_bytesOfWord (win w : Word) : (bytesOfWord w).foldl shiftWindow win = w := by
  have bound := w.isLt
  apply BitVec.eq_of_toNat_eq
  simp only [bytesOfWord, List.foldl_cons, List.foldl_nil, shiftWindow_toNat, slice_toNat]
  omega

/-- A result written for a scanned window and for a DECODE_WORD shows on the same ports, but for those that say where
the window is from. -/
theorem scan_outputs_eq_word_outputs {s t : State} (ovf : t.ovf = s.ovf) (res : DecodeResult) (w : Word) (off : Nat) :
    { ((t.writeResult res w off true).countRecord res).outputs with
      rScan := false, rOffset := 0, pos := s.pos, frameCount := s.frameCount, recOut := false } =
      (s.writeResult res w 0 false).outputs := by
  have zero : s.narrow 0 = 0 := Nat.zero_mod _
  cases res <;> simp [State.outputs, State.recOut, State.rSpf, ovf, zero]

/-- The last byte of a word that starts with 0xFF, pushed after the other three, evaluates the word. -/
theorem last_push_evaluates {s t : State} {w : Word} (sync : w.toNat / 2 ^ 24 = 0xFF)
    (three : Scanned s [w.extractLsb' 24 8, w.extractLsb' 16 8, w.extractLsb' 8 8] t)
    (room : t.pos ≠ 2 ^ t.offsetW - 1) :
    exec (.pushByte 0 (w.extractLsb' 0 8)) t =
      .next (((t.shiftIn (w.extractLsb' 0 8)).writeResult (decodeWindow w) w s.pos true).countRecord
        (decodeWindow w)) := by
  have window : t.pushedWindow (w.extractLsb' 0 8) = w := by
    rw [← shiftWindow_eq_pushedWindow, three.win]
    exact foldl_shiftWindow_bytesOfWord s.win w
  have pos : t.pos = s.pos + 3 := three.pos
  have fill := three.inv.fillIsMin
  have cand : t.candidate (w.extractLsb' 0 8) := ⟨by omega, by rw [window, sync]⟩
  have offset : t.candidateOffset = s.pos := by
    rw [candidateOffset_of_fits three.inv.posFits (by omega), pos, Nat.add_sub_cancel]
  rw [exec_pushByte_of_evaluates ⟨room, cand⟩, evaluateCandidate_eq, window, offset]

/-- The cycles of PUSH_WORD write the result of a word that starts with 0xFF, as a scan result at the word's first
byte. -/
theorem pushWord_evaluates {s : State} {w : Word} (h : s.Inv) (fits : s.pos + 4 ≤ 2 ^ s.offsetW - 1)
    (inputs : s.inputs = (Line.pushWord w).cycles) (sync : w.toNat / 2 ^ 24 = 0xFF) :
    ∃ t : State, t.offsetW = s.offsetW ∧ t.ovf = s.ovf ∧
      finalState 4 s = (t.writeResult (decodeWindow w) w s.pos true).countRecord (decodeWindow w) := by
  obtain ⟨t, three, last, runs⟩ := pushBytes_scanned
    [w.extractLsb' 24 8, w.extractLsb' 16 8, w.extractLsb' 8 8] h (Nat.le_trans (Nat.le_succ _) fits) inputs
  have pos : t.pos = s.pos + 3 := three.pos
  have room : t.pos ≠ 2 ^ t.offsetW - 1 := by
    rw [pos, three.offsetW]
    omega
  have evaluated := (step_pushByte last).trans (last_push_evaluates sync (three.withInputs []) room)
  have final := ((runs 1).2.trans (finalState_next evaluated)).trans (finalState_zero _)
  refine ⟨_, ?_, ?_, final⟩
  exacts [three.offsetW, three.ovf]

end Sys2Proof.Laws

open Sys2Proof.Machine Sys2Proof.Laws

/-- Settles O31: the four bytes leave the word in WIN; when it starts with 0xFF, the fourth push writes its result. -/
theorem pushWordAndDecodeWordSeeTheSameWindow : Obligations.PushWordAndDecodeWordSeeTheSameWindow := by
  intro s w h fits inputs
  obtain ⟨t, scanned, -, runs⟩ :=
    pushBytes_scanned (bytesOfWord w) h fits (inputs.trans (List.append_nil _).symm)
  obtain ⟨length, final⟩ := runs 0
  refine ⟨length, ?_, fun sync => ⟨_, rfl, ?_⟩⟩
  · calc (finalState 4 s).win = t.win := congrArg State.win final
      _ = w := scanned.win.trans (foldl_shiftWindow_bytesOfWord s.win w)
  · obtain ⟨u, offsetW, ovf, final⟩ := pushWord_evaluates h fits inputs sync
    have offset : u.narrow s.pos = s.pos := narrow_of_lt (offsetW ▸ h.posFits)
    rw [final]
    exact ⟨by simp, by simp, by simpa using offset, scan_outputs_eq_word_outputs ovf (decodeWindow w) w s.pos⟩

end

section
/-! ### The class of a window (spec/30_encoding.md R77) -/

namespace Sys2Proof.Laws

open Sys2Proof.Machine

/-- The position in stream order of a word's first 0, `H[0]` being `w[31]`. -/
def firstZero (w : Word) : Nat := 31 - (~~~w).toNat.log2

/-- The class of a window, by the header fields in the order of the checks of `Decode` (41_header_decode.md R138). -/
def shapeOf (w : Word) : HeaderShape :=
  if hdrSync w ≠ 0x7FF#11 then .syncZeroAt (firstZero w)
  else if (hdrVer w).toNat < 2 then .ver0x
  else if hdrVer w = 0b10#2 then .ver10
  else if 2 ≤ (hdrLay w).toNat then .ver11Lay1x
  else if hdrLay w = 0b00#2 then .ver11Lay00
  else if hdrBrIdx w = 0#4 then .brFree
  else if hdrBrIdx w = 15#4 then .brReserved
  else if hdrSrIdx w = 3#2 then .srReserved (hdrBrIdx w).toNat
  else .accept (hdrBrIdx w).toNat (hdrSrIdx w).toNat

/-! The field values that the checks leave. -/

theorem code_three_iff {v : BitVec 2} : v = 3#2 ↔ ¬ v.toNat < 2 ∧ v ≠ 2#2 := by revert v; decide

theorem code_one_iff {v : BitVec 2} : v = 1#2 ↔ ¬ 2 ≤ v.toNat ∧ v ≠ 0#2 := by revert v; decide

theorem bitrate_listed_iff {bri : BitVec 4} : 1 ≤ bri.toNat ∧ bri.toNat ≤ 14 ↔ bri ≠ 0#4 ∧ bri ≠ 15#4 := by
  revert bri; decide

theorem srate_listed_iff {sri : BitVec 2} : sri.toNat ≤ 2 ↔ sri ≠ 3#2 := by revert sri; decide

/-- A word has a 0 in its upper 11 bits when its complement has a 1 there. -/
theorem hdrSync_ne_iff {w : Word} : hdrSync w ≠ 0x7FF#11 ↔ 2 ^ 21 ≤ (~~~w).toNat := by
  have bound := w.isLt
  rw [hdrSync, ne_eq, slice_eq_iff, BitVec.toNat_not, BitVec.toNat_ofNat]
  omega

/-- `k` ones and then a 0 at the top of a word, through the complement. -/
theorem first_zero_iff {k : Nat} (hk : k < 11) {w : Word} :
    w.toNat / 2 ^ (31 - k) = 2 ^ (k + 1) - 2 ↔ 2 ^ (31 - k) ≤ (~~~w).toNat ∧ (~~~w).toNat < 2 ^ (31 - k + 1) := by
  have bound := w.isLt
  rw [BitVec.toNat_not]
  interval_cases k <;> omega

theorem holds_syncZeroAt_iff {k : Nat} {w : Word} :
    (HeaderShape.syncZeroAt k).holds w = true ↔ hdrSync w ≠ 0x7FF#11 ∧ firstZero w = k := by
  simp only [HeaderShape.holds, Bool.and_eq_true, decide_eq_true_eq, beq_iff_eq, firstZero, hdrSync_ne_iff]
  constructor
  · rintro ⟨hk, ones⟩
    rw [first_zero_iff hk] at ones
    have high : 2 ^ 21 ≤ 2 ^ (31 - k) := Nat.pow_le_pow_right (by decide) (by omega)
    have log : (~~~w).toNat.log2 = 31 - k := (Nat.log2_eq_iff (by omega)).mpr ones
    omega
  · rintro ⟨high, rfl⟩
    have nonzero : (~~~w).toNat ≠ 0 := by omega
    have low : 21 ≤ (~~~w).toNat.log2 := (Nat.le_log2 nonzero).mpr high
    have top : (~~~w).toNat.log2 < 32 := (Nat.log2_lt nonzero).mpr (~~~w).isLt
    have hk : 31 - (~~~w).toNat.log2 < 11 := by omega
    exact ⟨hk, (first_zero_iff hk).mpr ((Nat.log2_eq_iff nonzero).mp (by omega))⟩

/-- A window whose fields a class describes is of that class. -/
theorem shapeOf_of_holds {h : HeaderShape} {w : Word} (holds : h.holds w = true) : shapeOf w = h := by
  cases h
  case syncZeroAt k =>
    obtain ⟨sync, rfl⟩ := holds_syncZeroAt_iff.mp holds
    exact if_pos sync
  all_goals
    simp only [HeaderShape.holds, HeaderShape.layer3Ok, HeaderShape.syncOk, Bool.and_eq_true,
      decide_eq_true_eq, beq_iff_eq] at holds
    simp only [shapeOf, hdrSync, hdrVer, hdrLay, hdrBrIdx, hdrSrIdx]
  case srReserved bri =>
    obtain ⟨⟨⟨layer3, listed⟩, rfl⟩, srate⟩ := holds
    simp [layer3, bitrate_listed_iff.mp listed, srate]
  case accept bri sri =>
    obtain ⟨⟨⟨layer3, low, high, rate⟩, rfl⟩, rfl⟩ := holds
    simp [layer3, bitrate_listed_iff.mp ⟨low, high⟩, srate_listed_iff.mp rate]
  case ver0x | ver10 | ver11Lay1x | ver11Lay00 | brFree | brReserved => simp_all

/-- Every window has the fields of its class. -/
theorem holds_shapeOf (w : Word) : (shapeOf w).holds w = true := by
  rw [shapeOf]
  split_ifs with sync ver0x ver10 lay1x lay00 free reserved srate
  · exact holds_syncZeroAt_iff.mpr ⟨sync, rfl⟩
  all_goals
    rw [not_not] at sync
    simp only [HeaderShape.holds, HeaderShape.layer3Ok, HeaderShape.syncOk, Bool.and_eq_true,
      decide_eq_true_eq, beq_iff_eq]
  · exact ⟨sync, ver0x⟩
  · exact ⟨sync, ver10⟩
  all_goals have ver := code_three_iff.mpr ⟨ver0x, ver10⟩
  · exact ⟨⟨sync, ver⟩, lay1x⟩
  · exact ⟨⟨sync, ver⟩, lay00⟩
  all_goals have lay := code_one_iff.mpr ⟨lay1x, lay00⟩
  · exact ⟨⟨⟨sync, ver⟩, lay⟩, free⟩
  · exact ⟨⟨⟨sync, ver⟩, lay⟩, reserved⟩
  all_goals have listed := bitrate_listed_iff.mpr ⟨free, reserved⟩
  · exact ⟨⟨⟨⟨⟨sync, ver⟩, lay⟩, listed⟩, rfl⟩, srate⟩
  · exact ⟨⟨⟨⟨⟨sync, ver⟩, lay⟩, listed.1, listed.2, srate_listed_iff.mpr srate⟩, rfl⟩, rfl⟩

/-- A window has exactly one class. -/
theorem holds_iff {h : HeaderShape} {w : Word} : h.holds w = true ↔ h = shapeOf w :=
  ⟨fun holds => (shapeOf_of_holds holds).symm, fun e => e ▸ holds_shapeOf w⟩

/-! ### The rows of the table -/

/-- The classes of the rows, in the order of the table. -/
def headerShapes : List HeaderShape :=
  (List.range 11).map .syncZeroAt ++ [.ver0x, .ver10, .ver11Lay1x, .ver11Lay00, .brFree, .brReserved] ++
    (List.range 14).map (fun n => .srReserved (n + 1)) ++
    (List.range 3).flatMap fun sri => (List.range 14).map fun n => .accept (n + 1) sri

theorem headerShapes_nodup : headerShapes.Nodup := by decide

/-- Every class that has a window is the class of a row. -/
theorem mem_headerShapes_of_holds {h : HeaderShape} {w : Word} (holds : h.holds w = true) : h ∈ headerShapes := by
  cases h
  all_goals simp only [HeaderShape.holds, Bool.and_eq_true, decide_eq_true_eq] at holds
  case syncZeroAt k =>
    obtain ⟨hk, -⟩ := holds
    simp [headerShapes, hk]
  case srReserved bri =>
    obtain ⟨⟨⟨-, low, high⟩, -⟩, -⟩ := holds
    have listed : ∃ n < 14, n + 1 = bri := ⟨bri - 1, by omega, by omega⟩
    simp [headerShapes, listed]
  case accept bri sri =>
    obtain ⟨⟨⟨-, low, high, rate⟩, -⟩, -⟩ := holds
    have listed : ∃ n < 14, n + 1 = bri := ⟨bri - 1, by omega, by omega⟩
    simp [headerShapes, listed, Nat.lt_succ_of_le rate]
  all_goals simp [headerShapes]

/-- What the rows make of a word, class by class. -/
theorem headers_of_table (w : Word) :
    headerTable.map (fun r => (r.make w).header) = headerShapes.map (fun h => some (h, w)) := rfl

/-- What a row makes carries the word. -/
theorem header_of_row {r : HeaderRow} (hr : r ∈ headerTable) (w : Word) :
    ∃ h, (r.make w).header = some (h, w) := by
  have made : (r.make w).header ∈ headerTable.map (fun r => (r.make w).header) := List.mem_map_of_mem hr
  rw [headers_of_table, List.mem_map] at made
  obtain ⟨h, -, e⟩ := made
  exact ⟨h, e.symm⟩

/-- A header class is well formed on the windows of its class. -/
theorem wellFormed_iff {i : Instr} {h : HeaderShape} {w : Word} (hi : i.header = some (h, w)) :
    i.wellFormed = true ↔ h = shapeOf w := by
  rw [Instr.wellFormed, hi]
  exact holds_iff

/-- A row matches the words of its class. -/
theorem matches_iff_header {r : HeaderRow} (hr : r ∈ headerTable) (w : Word) :
    r.matches w = true ↔ (r.make w).header = some (shapeOf w, w) := by
  obtain ⟨h, hh⟩ := header_of_row hr w
  rw [matches_eq_wellFormed r hr, wellFormed_iff hh, hh]
  simp

/-- Exactly one row matches a word. -/
theorem matching_rows_length (w : Word) : (headerTable.filter (·.matches w)).length = 1 := by
  have inj : Function.Injective fun h : HeaderShape => some (h, w) := fun _ _ e => by simpa using e
  calc (headerTable.filter (·.matches w)).length
    _ = headerTable.countP (fun r => (r.make w).header == some (shapeOf w, w)) := by
      rw [← List.countP_eq_length_filter]
      exact List.countP_congr fun r hr => by rw [matches_iff_header hr, beq_iff_eq]
    _ = (headerTable.map fun r => (r.make w).header).count (some (shapeOf w, w)) := by
      rw [List.count, List.countP_map]; rfl
    _ = headerShapes.count (shapeOf w) := by
      rw [headers_of_table, List.count_map_of_injective _ _ inj]
    _ = 1 := List.count_eq_one_of_mem headerShapes_nodup (mem_headerShapes_of_holds (holds_shapeOf w))

/-- A word has a row that matches it, and no other. -/
theorem exists_matching_row (w : Word) : ∃ row ∈ headerTable, row.matches w = true ∧
    ∀ r ∈ headerTable, r.matches w = true → r = row := by
  obtain ⟨row, only⟩ := List.length_eq_one_iff.mp (matching_rows_length w)
  have mem : ∀ r, r ∈ headerTable ∧ r.matches w = true ↔ r = row := fun r => by
    rw [← List.mem_singleton (a := r), ← only, List.mem_filter]
  obtain ⟨hrow, hm⟩ := (mem row).mpr rfl
  exact ⟨row, hrow, hm, fun r hr m => (mem r).mp ⟨hr, m⟩⟩

/-! ### Decoding and encoding -/

/-- A word decodes to the class of the row that matches it. -/
theorem decodeHeader_of_matches {r : HeaderRow} {w : Word} (hr : r ∈ headerTable) (m : r.matches w = true) :
    decodeHeader w = .ok (r.make w) := by
  obtain ⟨row, -, -, only⟩ := exists_matching_row w
  rcases found : headerTable.find? (·.matches w) with _ | q
  · exact absurd m (List.find?_eq_none.mp found r hr)
  · have hm := List.find?_some found
    rw [only q (List.mem_of_find?_eq_some found) hm, ← only r hr m] at found
    rw [decodeHeader, found]

/-- Every header class is made by a row of the table. -/
theorem row_of_header (i : Instr) : TableRow.Statement i := by
  cases i
  exacts [TableRow.nop _, TableRow.decodeWord _, TableRow.pushByte _ _, TableRow.clear _,
    TableRow.hdrRejSyncH0 _, TableRow.hdrRejSyncH1 _, TableRow.hdrRejSyncH2 _, TableRow.hdrRejSyncH3 _,
    TableRow.hdrRejSyncH4 _, TableRow.hdrRejSyncH5 _, TableRow.hdrRejSyncH6 _, TableRow.hdrRejSyncH7 _,
    TableRow.hdrRejSyncH8 _, TableRow.hdrRejSyncH9 _, TableRow.hdrRejSyncH10 _, TableRow.hdrRejVlVer0x _,
    TableRow.hdrRejVlVer10 _, TableRow.hdrRejVlVer11Lay1x _, TableRow.hdrRejVlVer11Lay00 _,
    TableRow.hdrRejBrFree _, TableRow.hdrRejBrReserved _, TableRow.hdrRejSrReservedBr1 _,
    TableRow.hdrRejSrReservedBr2 _, TableRow.hdrRejSrReservedBr3 _, TableRow.hdrRejSrReservedBr4 _,
    TableRow.hdrRejSrReservedBr5 _, TableRow.hdrRejSrReservedBr6 _, TableRow.hdrRejSrReservedBr7 _,
    TableRow.hdrRejSrReservedBr8 _, TableRow.hdrRejSrReservedBr9 _, TableRow.hdrRejSrReservedBr10 _,
    TableRow.hdrRejSrReservedBr11 _, TableRow.hdrRejSrReservedBr12 _, TableRow.hdrRejSrReservedBr13 _,
    TableRow.hdrRejSrReservedBr14 _, TableRow.hdrAcceptBr1Sr0 _, TableRow.hdrAcceptBr1Sr1 _,
    TableRow.hdrAcceptBr1Sr2 _, TableRow.hdrAcceptBr2Sr0 _, TableRow.hdrAcceptBr2Sr1 _,
    TableRow.hdrAcceptBr2Sr2 _, TableRow.hdrAcceptBr3Sr0 _, TableRow.hdrAcceptBr3Sr1 _,
    TableRow.hdrAcceptBr3Sr2 _, TableRow.hdrAcceptBr4Sr0 _, TableRow.hdrAcceptBr4Sr1 _,
    TableRow.hdrAcceptBr4Sr2 _, TableRow.hdrAcceptBr5Sr0 _, TableRow.hdrAcceptBr5Sr1 _,
    TableRow.hdrAcceptBr5Sr2 _, TableRow.hdrAcceptBr6Sr0 _, TableRow.hdrAcceptBr6Sr1 _,
    TableRow.hdrAcceptBr6Sr2 _, TableRow.hdrAcceptBr7Sr0 _, TableRow.hdrAcceptBr7Sr1 _,
    TableRow.hdrAcceptBr7Sr2 _, TableRow.hdrAcceptBr8Sr0 _, TableRow.hdrAcceptBr8Sr1 _,
    TableRow.hdrAcceptBr8Sr2 _, TableRow.hdrAcceptBr9Sr0 _, TableRow.hdrAcceptBr9Sr1 _,
    TableRow.hdrAcceptBr9Sr2 _, TableRow.hdrAcceptBr10Sr0 _, TableRow.hdrAcceptBr10Sr1 _,
    TableRow.hdrAcceptBr10Sr2 _, TableRow.hdrAcceptBr11Sr0 _, TableRow.hdrAcceptBr11Sr1 _,
    TableRow.hdrAcceptBr11Sr2 _, TableRow.hdrAcceptBr12Sr0 _, TableRow.hdrAcceptBr12Sr1 _,
    TableRow.hdrAcceptBr12Sr2 _, TableRow.hdrAcceptBr13Sr0 _, TableRow.hdrAcceptBr13Sr1 _,
    TableRow.hdrAcceptBr13Sr2 _, TableRow.hdrAcceptBr14Sr0 _, TableRow.hdrAcceptBr14Sr1 _,
    TableRow.hdrAcceptBr14Sr2 _]

/-- A header class decodes from its window when the window is its own. -/
theorem decodeHeader_of_wellFormed {i : Instr} {h : HeaderShape} {w : Word} (hi : i.header = some (h, w))
    (wf : i.wellFormed = true) : decodeHeader w = .ok i := by
  obtain ⟨r, hr, made⟩ := row_of_header i h w hi
  have m : r.matches w = true := by rw [matches_eq_wellFormed r hr, made, wf]
  rw [decodeHeader_of_matches hr m, made]

theorem decode_encode_command {i : Instr} (hi : i.header = none) : decode (encode i) = .ok i := by
  obtain ⟨c, hc, hd⟩ := encode_command hi
  rw [hc, decode, hd]

/-- A value is its upper part before its lower part. -/
theorem high_append_low {n m : Nat} (x : BitVec (n + m)) : x.extractLsb' m n ++ x.extractLsb' 0 m = x := by
  ext k hk
  rw [BitVec.getElem_append]
  split <;> rename_i side
  · simp [BitVec.getLsbD_eq_getElem hk]
  · simp [Nat.add_sub_cancel' (Nat.le_of_not_lt side), BitVec.getLsbD_eq_getElem hk]

theorem decodeCommand_header (c : BitVec 34) : (decodeCommand c).header = none := by
  simp only [decodeCommand]
  split_ifs <;> rfl

theorem encode_decodeCommand (c : BitVec 34) : encode (decodeCommand c) = .cmd34 c := by
  have word := high_append_low (n := 2) (m := 32) c
  have last : ∀ v : BitVec 2, v ≠ 0b00#2 → v ≠ 0b01#2 → v ≠ 0b10#2 → v = 0b11#2 := by decide
  simp only [decodeCommand]
  split_ifs with nop decode push
  · rw [nop] at word
    exact congrArg _ word
  · rw [decode] at word
    exact congrArg _ word
  · rw [push, ← high_append_low (n := 24) (m := 8) (BitVec.extractLsb' 0 32 c)] at word
    exact congrArg _ word
  · rw [last _ nop decode push] at word
    exact congrArg _ word

theorem wellFormed_of_command {i : Instr} (hi : i.header = none) : i.wellFormed = true := by
  rw [Instr.wellFormed, hi]

end Sys2Proof.Laws

open Sys2Proof Sys2Proof.Machine Sys2Proof.Laws

/-- Settles O47: a command word decodes by its code, and of a header class's window only the row that makes it matches. -/
theorem decodeOfEncodeIsIdentity : Obligations.DecodeOfEncodeIsIdentity := by
  intro i wf
  rcases hi : i.header with _ | ⟨h, w⟩
  · exact decode_encode_command hi
  · rw [encode_header hi]
    exact decodeHeader_of_wellFormed hi wf

/-- Settles O48: the four codes are all defined, and every header word has a row that matches it. -/
theorem everyWordDecodes : Obligations.EveryWordDecodes := by
  rintro (c | w)
  · exact ⟨decodeCommand c, rfl, wellFormed_of_command (decodeCommand_header c), encode_decodeCommand c⟩
  · obtain ⟨row, hrow, m, -⟩ := exists_matching_row w
    obtain ⟨h, header⟩ := header_of_row hrow w
    exact ⟨row.make w, decodeHeader_of_matches hrow m, matches_eq_wellFormed row hrow w ▸ m, encode_header header⟩

/-- Settles O24: the masks and matches by evaluation; the classes of the rows are distinct, and a word has one. -/
theorem headerRowsPartitionTheWords : Obligations.HeaderRowsPartitionTheWords :=
  ⟨rfl, rfl, matching_rows_length⟩

end

section
/-! ### What a header class does, and what `Decode` does with its window (spec/30_encoding.md R77) -/

namespace Sys2Proof.Laws

open Sys2Proof.Machine

/-- The outcome that the map of R77 gives a window of a class, the cells of its columns quoted from R128, R130 and
R154. -/
def outcomeOf : HeaderShape → Word → DecodeResult
  | .syncZeroAt _, _ => .reject .sync
  | .ver0x, _ | .ver10, _ | .ver11Lay1x, _ | .ver11Lay00, _ => .reject .versionLayer
  | .brFree, _ => .reject .bitrateFree
  | .brReserved, _ => .reject .bitrateReserved
  | .srReserved _, _ => .reject .srateReserved
  | .accept bri sri, w => .accept ⟨Claims.kbpsList.getD (bri - 1) 0, Claims.hzList.getD sri 0, hdrPadded w,
      samplesPerFrame, (Claims.sizeTable.getD (bri - 1) []).getD sri 0 + (hdrPadded w).toNat⟩

/-- The row of each class writes its outcome. -/
theorem exec_outcomeOf {i : Instr} {h : HeaderShape} {w : Word} (hi : i.header = some (h, w)) (s : State) :
    exec i s = .next (s.writeResult (outcomeOf h w) w 0 false) := by
  cases i <;> simp only [Instr.header, Option.some.injEq, Prod.mk.injEq, reduceCtorEq] at hi <;>
    obtain ⟨rfl, rfl⟩ := hi <;> rfl

theorem bitrateEntry_listed {bri : BitVec 4} : bri ≠ 0#4 → bri ≠ 15#4 →
    bitrateEntry bri = .kbps (Claims.kbpsList.getD (bri.toNat - 1) 0) := by
  revert bri; decide

theorem srateEntry_listed {sri : BitVec 2} : sri ≠ 3#2 →
    srateEntry sri = some (Claims.hzList.getD sri.toNat 0) := by
  revert sri; decide

/-- The formula of R150 gives the cells of R154. -/
theorem frameSize_listed {bri : BitVec 4} {sri : BitVec 2} : bri ≠ 0#4 → bri ≠ 15#4 → sri ≠ 3#2 →
    samplesPerFrame / 8 * Claims.kbpsList.getD (bri.toNat - 1) 0 * 1000 / Claims.hzList.getD sri.toNat 0 =
      (Claims.sizeTable.getD (bri.toNat - 1) []).getD sri.toNat 0 := by
  revert bri sri; decide

/-- `Decode` gives a window the outcome of its class. -/
theorem decodeWindow_eq_outcomeOf (w : Word) : decodeWindow w = outcomeOf (shapeOf w) w := by
  rw [shapeOf]
  split_ifs with sync ver0x ver10 lay1x lay00 free reserved srate
  all_goals rw [decodeWindow, ver1Code, layer3Code]
  · exact if_pos sync
  all_goals rw [if_neg sync]
  · exact if_pos fun accepted => (code_three_iff.mp accepted.1).1 ver0x
  · exact if_pos fun accepted => (code_three_iff.mp accepted.1).2 ver10
  · exact if_pos fun accepted => (code_one_iff.mp accepted.2).1 lay1x
  · exact if_pos fun accepted => (code_one_iff.mp accepted.2).2 lay00
  all_goals rw [if_neg (not_not.mpr ⟨code_three_iff.mpr ⟨ver0x, ver10⟩, code_one_iff.mpr ⟨lay1x, lay00⟩⟩)]
  · rw [bitrateEntry_free.mpr free]; rfl
  · rw [bitrateEntry_reserved.mpr reserved]; rfl
  all_goals rw [bitrateEntry_listed free reserved]
  · rw [srateEntry_none.mpr srate]; rfl
  · rw [srateEntry_listed srate, outcomeOf, ← frameSize_listed free reserved srate]; rfl

/-! ### The registers after a result of DECODE_WORD, in the spec's quotients -/

theorem writeResult_reject_eq (s : State) (r : Reason) (w : Word) :
    s.writeResult (.reject r) w 0 false =
      { s with
        rValid := true, rNew := true, rScan := false, rAccept := false, rReason := r.code, rOffset := 0
        rVer := BitVec.ofNat 2 (w.toNat / 2 ^ 19), rLay := BitVec.ofNat 2 (w.toNat / 2 ^ 17)
        rBrIdx := BitVec.ofNat 4 (w.toNat / 2 ^ 12), rSrIdx := BitVec.ofNat 2 (w.toNat / 2 ^ 10)
        rBitrate := 0, rSrate := 0, rPadded := false, rFsize := 0 } := by
  have offset : s.narrow 0 = 0 := Nat.zero_mod _
  simp only [State.writeResult, offset, hdrVer, hdrLay, hdrBrIdx, hdrSrIdx, slice_eq_ofNat]
  rfl

/-- Each rejecting row writes a reason of its code. -/
theorem exec_rejectRow {r : Claims.RejectRow} (hr : r ∈ Claims.rejectRows) :
    ∃ reason : Reason, (∀ w s, exec (r.make w) s = evalRejectRow reason w s) ∧ reason.code = r.code := by
  revert r
  simp only [Claims.rejectRows, List.forall_mem_append, List.forall_mem_cons, List.not_mem_nil, false_imp_iff,
    implies_true, and_true]
  and_intros <;> exact ⟨_, fun _ _ => rfl, rfl⟩

/-- Each accepting row writes its own constants. -/
theorem exec_acceptRow {r : Claims.AcceptRow} (hr : r ∈ Claims.acceptRows) (w : Word) (s : State) :
    exec (r.make w) s = evalAcceptRow r.kbps.toNat r.hz.toNat r.size.toNat w s := by
  revert r
  simp only [Claims.acceptRows, List.forall_mem_append, List.forall_mem_cons, List.not_mem_nil, false_imp_iff,
    implies_true, and_true]
  and_intros <;> rfl

/-- The fields of a window that an accepting row's mask and match cover. -/
theorem fields_of_acceptRow {w : Word} {bri : BitVec 4} {sri : BitVec 2}
    (m : w &&& 0xFFFEFC00#32 = BitVec.ofNat 32 (0xFFFA0000 + bri.toNat * 0x1000 + sri.toNat * 0x400)) :
    hdrVer w = 3 ∧ hdrLay w = 1 ∧ hdrBrIdx w = bri ∧ hdrSrIdx w = sri := by
  have bound := w.isLt
  have hb := bri.isLt
  have hs := sri.isLt
  have fits : 0xFFFA0000 + bri.toNat * 0x1000 + sri.toNat * 0x400 < 2 ^ 32 := by omega
  have num := congrArg BitVec.toNat m
  rw [and_FFFEFC00, BitVec.toNat_ofNat, Nat.mod_eq_of_lt fits] at num
  simp only [hdrVer, hdrLay, hdrBrIdx, hdrSrIdx, slice_eq_iff, BitVec.ofNat_eq_ofNat, BitVec.toNat_ofNat]
  omega

end Sys2Proof.Laws

open Sys2Proof Sys2Proof.Machine Sys2Proof.Laws

/-- Settles O23: both write the outcome that R77 gives the window's class. -/
theorem headerClassesAgreeWithDecode : Obligations.HeaderClassesAgreeWithDecode := by
  intro i h w hi wf s
  rw [exec_outcomeOf hi, (wellFormed_iff hi).mp wf, ← decodeWindow_eq_outcomeOf]
  rfl

/-- Settles O21: a rejecting row writes its reason, and the raw fields are quotients of the window. -/
theorem rejectingRowsComplete : Obligations.RejectingRowsComplete := by
  intro r hr w s
  obtain ⟨reason, run, code⟩ := exec_rejectRow hr
  rw [run, ← code, evalRejectRow, writeResult_reject_eq]

/-- Settles O22: an accepting row writes its constants, and its mask and match fix the raw fields. -/
theorem acceptingRowsComplete : Obligations.AcceptingRowsComplete := by
  intro r hr w s m
  obtain ⟨ver, lay, bri, sri⟩ := fields_of_acceptRow m
  have offset : s.narrow 0 = 0 := Nat.zero_mod _
  have pad : (hdrPadded w).toNat = w.toNat / 2 ^ 9 % 2 := Nat.toNat_testBit w.toNat 9
  have padded : hdrPadded w = decide (w.toNat / 2 ^ 9 % 2 = 1) := bit_eq_decide w 9
  rw [exec_acceptRow hr, evalAcceptRow, pad, padded]
  simp only [State.writeResult, offset, ver, lay, bri, sri, BitVec.ofNat_add, BitVec.ofNat_toNat,
    BitVec.setWidth_eq]
  rfl

end

section
/-! ### The cycles that present commands and table words (spec/30_encoding.md R70 to R72) -/

namespace Sys2Proof.Laws

open Sys2Proof.Machine

/-- A step whose cycle asks for an instruction runs it. -/
theorem step_of_request {s : State} {p : Pins} {rest : List Pins} {i : Instr} (inputs : s.inputs = p :: rest)
    (request : p.request = .run i) : step s = exec i { s with inputs := rest } := by
  rw [step_cons inputs, request]

/-- A table word that decodes is the encoding of a well-formed instruction, and its cycle presents it. -/
theorem ofTableWord_of_decode {nbits w : Nat} {i : Instr} (decoded : decodeTableWord nbits w = some i) :
    i.wellFormed = true ∧ Pins.ofTableWord nbits w = Pins.ofInstr i := by
  rw [decodeTableWord] at decoded
  rcases format : codeWordOf nbits w with e | cw
  · rw [format] at decoded
    cases decoded
  · obtain ⟨j, hj, wf, enc⟩ := everyWordDecodes cw
    simp only [format, hj, Option.some.injEq] at decoded
    subst decoded
    exact ⟨wf, by rw [Pins.ofTableWord, format, Pins.ofInstr, enc]⟩

/-- The command word of an instruction decodes to it. -/
theorem decodeCommand_of_encode {i : Instr} {c : BitVec 34} (enc : encode i = .cmd34 c) (hi : i.header = none) :
    decodeCommand c = i := by
  obtain ⟨d, hd, decoded⟩ := encode_command hi
  cases enc.symm.trans hd
  exact decoded

/-- A cycle that leaves nothing undefined of what its command reads runs it, with zeros in the undefined part. -/
theorem step_of_commandWord {s : State} {rest : List Pins} {cmd : BitVec 2} {hi : Option (BitVec 24)}
    {lo : Option Byte} {i : Instr} (command : i.header = none)
    (enc : encode i = .cmd34 (cmd ++ (hi.getD 0 ++ lo.getD 0)))
    (word : commandWord cmd hi lo = some (cmd ++ (hi.getD 0 ++ lo.getD 0))) :
    step { s with inputs := ⟨some false, some cmd, hi, lo⟩ :: rest } = exec i { s with inputs := rest } := by
  refine step_of_request rfl ?_
  rw [Pins.request]
  simp only [word, decodeCommand_of_encode enc command]

end Sys2Proof.Laws

open Sys2Proof Sys2Proof.Machine Sys2Proof.Laws

/-- Settles O38: a command's cycle asks for it, a header class's for the DECODE_WORD of its window, which does the
same. -/
theorem stepRunsEveryPresentedInstruction : Obligations.StepRunsEveryPresentedInstruction := by
  intro s i rest wf inputs
  rw [step_of_request inputs (request_ofInstr i)]
  rcases hi : i.header with _ | ⟨h, w⟩
  · rfl
  · exact (headerClassesAgreeWithDecode i h w hi wf _).symm

/-- Settles O39: the table word's cycle presents the instruction it decodes to. -/
theorem fetchedTableWordRuns : Obligations.FetchedTableWordRuns := by
  intro s nbits w i decoded
  obtain ⟨wf, presented⟩ := ofTableWord_of_decode decoded
  exact stepRunsEveryPresentedInstruction _ i s.inputs wf (by rw [State.withFetchWord, presented])

/-- Settles O37: the cycle asks for the command of its word, and each command decodes from its encoding. -/
theorem stepRunsTheDecodedCommand : Obligations.StepRunsTheDecodedCommand := by
  refine ⟨fun s cmd hi lo rest i inputs decoded => ?_, fun hi lo => ⟨?_, ?_, ?_, ?_⟩⟩
  · cases decoded
    exact step_of_request inputs (request_defined cmd hi lo)
  · exact decode_encode_command (i := .nop (hi ++ lo)) rfl
  · exact decode_encode_command (i := .decodeWord (hi ++ lo)) rfl
  · exact decode_encode_command (i := .pushByte hi lo) rfl
  · exact decode_encode_command (i := .clear (hi ++ lo)) rfl

/-- Settles O40: the unread parts reach only the ignored operand, which no meaning reads. -/
theorem unreadOperandBitsHaveNoEffect : Obligations.UnreadOperandBitsHaveNoEffect := by
  intro s rest hi lo h b cmd
  refine ⟨?nop, ?clear, ?pushByte, ?decodeWord, ?reset⟩
  case nop => exact step_of_commandWord (i := .nop (hi.getD 0 ++ lo.getD 0)) rfl rfl rfl
  case clear => exact step_of_commandWord (i := .clear (hi.getD 0 ++ lo.getD 0)) rfl rfl rfl
  case pushByte => exact step_of_commandWord (i := .pushByte (hi.getD 0) b) rfl rfl rfl
  case decodeWord => exact step_of_commandWord (i := .decodeWord (h ++ b)) rfl rfl rfl
  case reset =>
    rw [step_cons rfl, request_reset rfl rfl]
    rfl

/-- Settles O49, by evaluating the decoder on each word. -/
theorem specWordsDecode : Obligations.SpecWordsDecode := by
  and_intros <;> decide

end

section
/-! ### The bit extractor (spec/40_bit_extractor.md R100 to R102) -/

namespace Sys2Proof.Laws

open Sys2Proof.Machine

/-! The bits of bytes and words. -/

@[simp] theorem bitsOfByte_length (b : Byte) : (bitsOfByte b).length = 8 := rfl

theorem bitsOfByte_getElem? (b : Byte) {j : Nat} (hj : j < 8) : (bitsOfByte b)[j]? = some (b.getLsbD (7 - j)) := by
  interval_cases j <;> rfl

theorem bitsOf_cons (b : Byte) (bs : List Byte) : bitsOf (b :: bs) = bitsOfByte b ++ bitsOf bs := List.flatMap_cons

theorem bitsOf_length (bytes : List Byte) : (bitsOf bytes).length = 8 * bytes.length := by
  simp [bitsOf, List.length_flatMap, Nat.mul_comm]

/-- Bit `8k + j` of the stream is bit `7 - j` of byte `k`: each byte before byte `k` takes 8 places. -/
theorem bitsOf_getElem? {bytes : List Byte} {k j : Nat} {b : Byte} (byte : bytes[k]? = some b) (hj : j < 8) :
    (bitsOf bytes)[8 * k + j]? = some (b.getLsbD (7 - j)) := by
  induction bytes generalizing k with
  | nil => cases byte
  | cons b' bs ih =>
    rw [bitsOf_cons]
    cases k with
    | zero =>
      cases byte
      rw [Nat.mul_zero, Nat.zero_add, List.getElem?_append_left hj, bitsOfByte_getElem? b hj]
    | succ k =>
      have skip : 8 * (k + 1) + j - 8 = 8 * k + j := by omega
      rw [List.getElem?_append_right (by rw [bitsOfByte_length]; omega), bitsOfByte_length, skip]
      exact ih byte

theorem bytesOfWord_getElem? (w : Word) {k : Nat} (hk : k < 4) :
    (bytesOfWord w)[k]? = some (w.extractLsb' (24 - 8 * k) 8) := by
  interval_cases k <;> rfl

theorem wordBits_length (w : Word) : (bitsOf (bytesOfWord w)).length = 32 := bitsOf_length _

/-- `H[p] = w[31-p]`. -/
theorem wordBits_getElem? (w : Word) {p : Nat} (hp : p < 32) :
    (bitsOf (bytesOfWord w))[p]? = some (w.getLsbD (31 - p)) := by
  have bit := bitsOf_getElem? (bytesOfWord_getElem? w (k := p / 8) (by omega)) (Nat.mod_lt p (by decide : 0 < 8))
  have place : 24 - 8 * (p / 8) + (7 - p % 8) = 31 - p := by omega
  rwa [Nat.div_add_mod, BitVec.getLsbD_extractLsb', decide_eq_true (by omega), Bool.true_and, place] at bit

/-! The number of a bit slice. -/

theorem asInteger_append_bit (bits : List Bool) (c : Bool) :
    asInteger (bits ++ [c]) = 2 * asInteger bits + c.toNat := by
  simp only [asInteger, List.foldl_append, List.foldl_cons, List.foldl_nil]

/-- The left part of a slice counts in units of the right part's place value. -/
theorem asInteger_append (left right : List Bool) :
    asInteger (left ++ right) = asInteger left * 2 ^ right.length + asInteger right := by
  induction right using List.reverseRecOn with
  | nil => simp [asInteger]
  | append_singleton right c ih =>
    rw [← List.append_assoc, asInteger_append_bit, asInteger_append_bit, ih, List.length_append, List.length_singleton]
    ring

theorem asInteger_lt (bits : List Bool) : asInteger bits < 2 ^ bits.length := by
  induction bits using List.reverseRecOn with
  | nil => decide
  | append_singleton bits c ih =>
    rw [asInteger_append_bit, List.length_append, List.length_singleton, Nat.pow_succ]
    have := c.toNat_lt
    omega

theorem asInteger_cons (c : Bool) (bits : List Bool) :
    asInteger (c :: bits) = c.toNat * 2 ^ bits.length + asInteger bits := by
  rw [← List.singleton_append, asInteger_append]
  simp [asInteger]

theorem asInteger_eq_sum (bits : List Bool) : asInteger bits =
    ∑ k ∈ Finset.range bits.length, (bits.getD k false).toNat * 2 ^ (bits.length - 1 - k) := by
  induction bits with
  | nil => rfl
  | cons c bits ih =>
    rw [asInteger_cons, List.length_cons, Finset.sum_range_succ', Nat.add_comm, ih]
    simp [Nat.sub_sub, Nat.add_comm]

/-- Leaving out the last bits divides by their place value. -/
theorem asInteger_take (bits : List Bool) (b : Nat) :
    asInteger (bits.take b) = asInteger bits / 2 ^ (bits.length - b) := by
  have parts := asInteger_append (bits.take b) (bits.drop b)
  have low := asInteger_lt (bits.drop b)
  rw [List.take_append_drop, List.length_drop] at parts
  rw [List.length_drop] at low
  rw [parts, Nat.add_comm, Nat.add_mul_div_right _ _ (Nat.two_pow_pos _), Nat.div_eq_of_lt low, Nat.zero_add]

/-- Leaving out the first bits keeps the remainder by the place value of the others. -/
theorem asInteger_drop (bits : List Bool) (a : Nat) :
    asInteger (bits.drop a) = asInteger bits % 2 ^ (bits.length - a) := by
  have parts := asInteger_append (bits.take a) (bits.drop a)
  have low := asInteger_lt (bits.drop a)
  rw [List.take_append_drop, List.length_drop] at parts
  rw [List.length_drop] at low
  rw [parts, Nat.mul_add_mod_self_right, Nat.mod_eq_of_lt low]

/-! The number of a byte, of a word and of a field. -/

theorem bit_toNat {m : Nat} (w : BitVec m) (k : Nat) : (w.getLsbD k).toNat = w.toNat / 2 ^ k % 2 := by
  rw [← BitVec.testBit_toNat, Nat.toNat_testBit]

theorem asInteger_bitsOfByte (b : Byte) : asInteger (bitsOfByte b) = b.toNat := by
  have bound := b.isLt
  simp only [asInteger, bitsOfByte, List.foldl_cons, List.foldl_nil, bit_toNat]
  omega

/-- Each byte counts in units of the place value of the bytes after it. -/
theorem asInteger_bitsOf_cons (b : Byte) (bs : List Byte) :
    asInteger (bitsOf (b :: bs)) = b.toNat * 2 ^ (8 * bs.length) + asInteger (bitsOf bs) := by
  rw [bitsOf_cons, asInteger_append, asInteger_bitsOfByte, bitsOf_length]

/-- The first stream byte is `w[31:24]`, so the bits in stream order are the word in base 2. -/
theorem asInteger_wordBits (w : Word) : asInteger (bitsOf (bytesOfWord w)) = w.toNat := by
  have bound := w.isLt
  have empty : asInteger (bitsOf []) = 0 := rfl
  simp only [bytesOfWord, asInteger_bitsOf_cons, slice_toNat, List.length_cons, List.length_nil, empty]
  omega

/-- `H[a,b)` is `w[31-a : 32-b]`. -/
theorem field_eq_slice (w : Word) {a b : Nat} (hb : b ≤ 32) :
    field w a b = w.toNat / 2 ^ (32 - b) % 2 ^ (b - a) := by
  rw [field, asInteger_drop, asInteger_take, asInteger_wordBits, List.length_take, wordBits_length, Nat.min_eq_left hb]

end Sys2Proof.Laws

open Sys2Proof Sys2Proof.Machine Sys2Proof.Laws

/-- Settles O10, by induction over the bytes. -/
theorem bitsOfEmitsMostSignificantFirst : Obligations.BitsOfEmitsMostSignificantFirst :=
  fun bytes => ⟨bitsOf_length bytes, fun _ _ _ => bitsOf_getElem?⟩

/-- Settles O11, by induction over the bits. -/
theorem asIntegerIsTheBinaryValue : Obligations.AsIntegerIsTheBinaryValue :=
  fun bits => ⟨asInteger_eq_sum bits, asInteger_lt bits⟩

/-- Settles O12: the bits in stream order are the word's from the top, and a slice of bits is a quotient's remainder. -/
theorem fieldsAreWordSlices : Obligations.FieldsAreWordSlices := by
  intro w
  refine ⟨fun p => wordBits_getElem? w, fun a b _ hb => ⟨rfl, field_eq_slice w hb⟩, ?_, ?_, ?_, ?_, ?_, ?padded⟩
  case padded => rw [field_eq_slice w (by decide)]; exact bit_toNat w 9
  all_goals rw [field_eq_slice w (by decide)]; exact slice_toNat w _ _

end

section
/-! ### The checks of `Decode` over the header fields, and its accepted windows (spec/41_header_decode.md R120 to R138) -/

namespace Sys2Proof.Laws

open Sys2Proof.Machine

/-- `Decode` as the chain of its checks (41_header_decode.md R138), its tables read as lists. -/
theorem decodeWindow_eq_checks (w : Word) : decodeWindow w =
    if hdrSync w ≠ 0x7FF#11 then .reject .sync
    else if ¬ (hdrVer w = 3#2 ∧ hdrLay w = 1#2) then .reject .versionLayer
    else if hdrBrIdx w = 0#4 then .reject .bitrateFree
    else if hdrBrIdx w = 15#4 then .reject .bitrateReserved
    else if hdrSrIdx w = 3#2 then .reject .srateReserved
    else .accept (descriptor (Claims.kbpsList.getD ((hdrBrIdx w).toNat - 1) 0)
      (Claims.hzList.getD (hdrSrIdx w).toNat 0) (hdrPadded w)) := by
  rcases decodeWindow_cases w with ⟨answer, sync⟩ | ⟨answer, sync, layer3⟩ | ⟨answer, sync, ver, lay, free⟩ |
    ⟨answer, sync, ver, lay, reserved⟩ |
    ⟨answer, sync, ver, lay, (notFree : _ ≠ 0#4), (notReserved : _ ≠ 15#4), srate⟩ |
    ⟨kbps, hz, answer, sync, ver, lay, bitrate, srate⟩
  · simp [answer, sync]
  · simp [answer, sync, layer3]
  · simp [answer, sync, ver, lay, free]
  · simp [answer, sync, ver, lay, reserved]
  · simp [answer, sync, ver, lay, notFree, notReserved, srate]
  · obtain ⟨(notFree : _ ≠ 0#4), (notReserved : _ ≠ 15#4), -⟩ := bitrateEntry_kbps bitrate
    obtain ⟨(listed : _ ≠ 3#2), -⟩ := srateEntry_some srate
    cases bitrate.symm.trans (bitrateEntry_listed notFree notReserved)
    cases srate.symm.trans (srateEntry_listed listed)
    simp [answer, sync, ver, lay, notFree, notReserved, listed]

/-! The window's uninterpreted bits (R133). -/

/-- A mask of ones over a slice leaves the slice. -/
theorem slice_and_of_ones {m lo len : Nat} (w : BitVec m) {mask : BitVec m}
    (ones : mask.extractLsb' lo len = BitVec.allOnes len) :
    (w &&& mask).extractLsb' lo len = w.extractLsb' lo len := by
  rw [BitVec.extractLsb'_and, ones, BitVec.and_allOnes]

/-- `Decode` reads a window only where R133's mask has its ones. -/
theorem decodeWindow_and_mask (w : Word) : decodeWindow (w &&& 0xFFFEFE00#32) = decodeWindow w := by
  have sync : hdrSync (w &&& 0xFFFEFE00#32) = hdrSync w := slice_and_of_ones w (by decide)
  have ver : hdrVer (w &&& 0xFFFEFE00#32) = hdrVer w := slice_and_of_ones w (by decide)
  have lay : hdrLay (w &&& 0xFFFEFE00#32) = hdrLay w := slice_and_of_ones w (by decide)
  have bri : hdrBrIdx (w &&& 0xFFFEFE00#32) = hdrBrIdx w := slice_and_of_ones w (by decide)
  have sri : hdrSrIdx (w &&& 0xFFFEFE00#32) = hdrSrIdx w := slice_and_of_ones w (by decide)
  have pad : hdrPadded (w &&& 0xFFFEFE00#32) = hdrPadded w := (BitVec.getLsbD_and ..).trans (Bool.and_true _)
  simp only [decodeWindow, sync, ver, lay, bri, sri, pad]

/-! Acceptance (R134). -/

/-- A window is accepted when none of the checks fails. -/
theorem isAccept_iff_fields {w : Word} : (decodeWindow w).isAccept = true ↔
    hdrSync w = 0x7FF#11 ∧ (hdrVer w = 3#2 ∧ hdrLay w = 1#2) ∧ hdrBrIdx w ≠ 0#4 ∧ hdrBrIdx w ≠ 15#4 ∧
      hdrSrIdx w ≠ 3#2 := by
  rw [decodeWindow_eq_checks]
  split_ifs with sync layer3 free reserved srate
  · exact iff_of_false nofun fun ⟨syncOk, _⟩ => sync syncOk
  · exact iff_of_false nofun fun ⟨_, _, notFree, _⟩ => notFree free
  · exact iff_of_false nofun fun ⟨_, _, _, notReserved, _⟩ => notReserved reserved
  · exact iff_of_false nofun fun ⟨_, _, _, _, listed⟩ => listed srate
  · exact iff_of_true rfl ⟨not_not.mp sync, layer3, free, reserved, srate⟩
  · exact iff_of_false nofun fun ⟨_, layer3Ok, _⟩ => layer3 layer3Ok

/-- The accepted windows as numbers: the sync, version and layer fields are the upper 15 bits. -/
theorem isAccept_iff_toNat {w : Word} : (decodeWindow w).isAccept = true ↔
    w.toNat / 2 ^ 17 = 0x7FFD ∧ (w.toNat / 2 ^ 12 % 16 ≠ 0 ∧ w.toNat / 2 ^ 12 % 16 ≠ 15) ∧
      w.toNat / 2 ^ 10 % 4 ≠ 3 := by
  have bound := w.isLt
  simp only [isAccept_iff_fields, hdrSync, hdrVer, hdrLay, hdrBrIdx, hdrSrIdx, ne_eq, slice_eq_iff, BitVec.toNat_ofNat]
  omega

theorem isAccept_of_accept {w : Word} {d : Descriptor} (h : decodeWindow w = .accept d) :
    (decodeWindow w).isAccept = true := by
  rw [h, DecodeResult.isAccept]

/-! The number of accepted windows (R134). -/

/-- The accepted window of a bit 16, a bitrate index from 1, a sampling-rate index and the lower 10 bits. -/
def acceptedWord : Fin 2 × Fin 14 × Fin 3 × Fin 1024 → Word
  | (bit16, bri, sri, low) => BitVec.ofNat 32 (0x7FFD * 2 ^ 17 + bit16 * 2 ^ 16 + (bri + 1) * 2 ^ 12 + sri * 2 ^ 10 + low)

theorem acceptedWord_toNat (bit16 : Fin 2) (bri : Fin 14) (sri : Fin 3) (low : Fin 1024) :
    (acceptedWord (bit16, bri, sri, low)).toNat =
      0x7FFD * 2 ^ 17 + bit16 * 2 ^ 16 + (bri + 1) * 2 ^ 12 + sri * 2 ^ 10 + low := by
  rw [acceptedWord, BitVec.toNat_ofNat]
  omega

theorem acceptedWord_injective : Function.Injective acceptedWord := by
  rintro ⟨bit16, bri, sri, low⟩ ⟨bit16', bri', sri', low'⟩ same
  have num := congrArg BitVec.toNat same
  rw [acceptedWord_toNat, acceptedWord_toNat] at num
  simp only [Prod.mk.injEq, Fin.ext_iff]
  omega

theorem isAccept_iff_mem_range {w : Word} : (decodeWindow w).isAccept = true ↔ w ∈ Set.range acceptedWord := by
  rw [isAccept_iff_toNat]
  constructor
  · rintro ⟨layer3, bitrate, srate⟩
    refine ⟨⟨⟨w.toNat / 2 ^ 16 % 2, by omega⟩, ⟨w.toNat / 2 ^ 12 % 16 - 1, by omega⟩,
      ⟨w.toNat / 2 ^ 10 % 4, by omega⟩, ⟨w.toNat % 1024, by omega⟩⟩, BitVec.eq_of_toNat_eq ?_⟩
    rw [acceptedWord_toNat]
    dsimp only
    omega
  · rintro ⟨⟨bit16, bri, sri, low⟩, rfl⟩
    rw [acceptedWord_toNat]
    omega

theorem card_accepted : Nat.card { w : Word // (decodeWindow w).isAccept = true } = 86016 :=
  calc Nat.card { w : Word // (decodeWindow w).isAccept = true }
    _ = Nat.card (Set.range acceptedWord) := Nat.card_congr (Equiv.subtypeEquivRight fun _ => isAccept_iff_mem_range)
    _ = Nat.card (Fin 2 × Fin 14 × Fin 3 × Fin 1024) := Nat.card_range_of_injective acceptedWord_injective
    _ = 86016 := by simp only [Nat.card_prod, Nat.card_fin]

end Sys2Proof.Laws

open Sys2Proof Sys2Proof.Machine Sys2Proof.Laws

/-- Settles O13: the fields in stream order are the wired slices on which `Decode` makes its checks. -/
theorem decodeChecksInOrder : Obligations.DecodeChecksInOrder := by
  intro w
  obtain ⟨-, -, sync, ver, lay, bri, sri, pad⟩ := fieldsAreWordSlices w
  have padded : hdrPadded w = decide ((hdrPadded w).toNat = 1) := by cases hdrPadded w <;> rfl
  rw [← sync, ← ver, ← lay, ← bri, ← sri, ← pad, ← padded, decodeWindow_eq_checks]
  simp only [ne_eq, ← BitVec.toNat_inj, BitVec.toNat_ofNat]
  rfl

/-- Settles O14: each outcome of the chain of checks has its own code, and DECODE_WORD writes it. -/
theorem reasonCodesNameTheFirstFailingCheck : Obligations.ReasonCodesNameTheFirstFailingCheck := by
  intro w
  have bound := reasonCode_le (decodeWindow w)
  refine ⟨?_, (isAccept_iff_reasonCode _).symm, fun s => ⟨_, rfl, State.writeResult_rReason .., ?_, ?_⟩⟩
  · rw [decodeChecksInOrder w]
    split_ifs <;> rfl
  all_goals
    intro code
    rw [State.writeResult_rReason] at code
    rw [code] at bound
    exact absurd bound (by decide)

/-- Settles O15: `Decode` answers for a word what it answers for the word under the mask. -/
theorem decodeIgnoresUninterpretedBits : Obligations.DecodeIgnoresUninterpretedBits := by
  intro w w' same
  rw [← decodeWindow_and_mask w, same, decodeWindow_and_mask]

/-- Settles O16: the mask leaves the upper 15 bits, and the accepted words are numbered by their free fields. -/
theorem acceptanceInClosedForm : Obligations.AcceptanceInClosedForm := by
  refine ⟨fun w => ?_, card_accepted⟩
  rw [isAccept_iff_toNat, ← BitVec.toNat_inj, and_FFFE0000, BitVec.toNat_ofNat]
  omega

/-- Settles O17: the upper 15 bits of an accepted window are 0x7FFD. -/
theorem acceptedWindowsStartWithSyncBytes : Obligations.AcceptedWindowsStartWithSyncBytes := by
  intro w d accepted
  obtain ⟨layer3, -⟩ := isAccept_iff_toNat.mp (isAccept_of_accept accepted)
  omega

/-- Settles O18: an accepted window has none of the three field values. -/
theorem sourceRejectionProperties : Obligations.SourceRejectionProperties := by
  intro w
  simp only [← Bool.not_eq_true, isAccept_iff_toNat]
  omega

end

section
/-! ### The frame size and the widths of an accepted descriptor (spec/42_frame_size.md R150 to R154) -/

namespace Sys2Proof.Laws

open Sys2Proof.Machine

section

variable {bri : BitVec 4} {sri : BitVec 2} {kbps hz : Nat} (bitrate : bitrateEntry bri = .kbps kbps)
  (srate : srateEntry sri = some hz) (pad : Bool)
include bitrate srate

/-- The frame size of a listed bitrate and sampling rate is their cell of R154, padding counted after the division. -/
theorem frameSize_eq_cell : frameSize kbps hz pad =
    (Claims.sizeTable.getD (bri.toNat - 1) []).getD sri.toNat 0 + pad.toNat := by
  obtain ⟨notFree, notReserved, -⟩ := bitrateEntry_kbps bitrate
  obtain ⟨listed, -⟩ := srateEntry_some srate
  cases bitrate.symm.trans (bitrateEntry_listed notFree notReserved)
  cases srate.symm.trans (srateEntry_listed listed)
  rw [frameSize, frameSize_listed notFree notReserved listed]

/-- The range of R153: 32 kbps at 48000 Hz is the least size, 320 kbps at 32000 Hz padded the greatest. -/
theorem frameSize_bounds : 32 ≤ frameSize kbps hz pad ∧ frameSize kbps hz pad ≤ 481 := by
  obtain ⟨-, -, kbps_ge, kbps_le⟩ := bitrateEntry_kbps bitrate
  obtain ⟨-, rate⟩ := srateEntry_some srate
  have pad_le := pad.toNat_le
  simp only [frameSize, samplesPerFrame]
  rcases rate with rfl | rfl | rfl <;> omega

end

end Sys2Proof.Laws

open Sys2Proof Sys2Proof.Machine Sys2Proof.Laws

/-- Settles O19: the tables' entries at the window's two indices give the cell, and bit 9 the padding. -/
theorem frameSizesAreTheTable : Obligations.FrameSizesAreTheTable := by
  intro w d accepted
  obtain ⟨kbps, hz, rfl, -, -, -, bitrate, srate⟩ := decodeWindow_accept accepted
  have bri : (hdrBrIdx w).toNat = w.toNat / 2 ^ 12 % 16 := slice_toNat w 12 4
  have sri : (hdrSrIdx w).toNat = w.toNat / 2 ^ 10 % 4 := slice_toNat w 10 2
  have pad : (hdrPadded w).toNat = w.toNat / 2 ^ 9 % 2 := bit_toNat w 9
  rw [← bri, ← sri, ← pad]
  exact frameSize_eq_cell bitrate srate (hdrPadded w)

/-- Settles O20: the entries of the two tables bound the descriptor, and its fields are below the registers' widths. -/
theorem acceptedDescriptorsFitTheirRegisters : Obligations.AcceptedDescriptorsFitTheirRegisters := by
  intro w d accepted
  obtain ⟨kbps_lt, hz_lt, size_lt⟩ := accepted_descriptor_fits accepted
  obtain ⟨kbps, hz, rfl, -, -, -, bitrate, srate⟩ := decodeWindow_accept accepted
  obtain ⟨-, -, -, kbps_le⟩ := bitrateEntry_kbps bitrate
  obtain ⟨-, rate⟩ := srateEntry_some srate
  obtain ⟨size_ge, size_le⟩ := frameSize_bounds bitrate srate (hdrPadded w)
  have numerator : 48 * kbps * 1000 < 2 ^ 24 := by omega
  exact ⟨rate, numerator, size_ge, size_le, rfl, Nat.mod_eq_of_lt kbps_lt, Nat.mod_eq_of_lt hz_lt,
    Nat.mod_eq_of_lt size_lt⟩

end

section
/-! ### The word commands (spec/43_commands.md R170 to R172) -/

namespace Sys2Proof.Laws

open Sys2Proof.Machine

/-- What R172 gives DECODE_WORD to do. -/
theorem exec_decodeWord (w : Word) (s : State) :
    exec (.decodeWord w) s = .next (s.writeResult (decodeWindow w) w 0 false) := rfl

/-- WriteResult reads a window only where R133's mask has its ones: each raw field lies in them. -/
theorem writeResult_and_mask (s : State) (res : DecodeResult) (w : Word) (off : Nat) (scan : Bool) :
    s.writeResult res (w &&& 0xFFFEFE00#32) off scan = s.writeResult res w off scan := by
  have ver : hdrVer (w &&& 0xFFFEFE00#32) = hdrVer w := slice_and_of_ones w (by decide)
  have lay : hdrLay (w &&& 0xFFFEFE00#32) = hdrLay w := slice_and_of_ones w (by decide)
  have bri : hdrBrIdx (w &&& 0xFFFEFE00#32) = hdrBrIdx w := slice_and_of_ones w (by decide)
  have sri : hdrSrIdx (w &&& 0xFFFEFE00#32) = hdrSrIdx w := slice_and_of_ones w (by decide)
  simp only [State.writeResult, ver, lay, bri, sri]

theorem exec_decodeWord_and_mask (w : Word) (s : State) :
    exec (.decodeWord (w &&& 0xFFFEFE00#32)) s = exec (.decodeWord w) s := by
  rw [exec_decodeWord, exec_decodeWord, decodeWindow_and_mask, writeResult_and_mask]

end Sys2Proof.Laws

open Sys2Proof Sys2Proof.Machine Sys2Proof.Laws

/-- Settles O9: DECODE_WORD does for a word what it does for the word under the mask. -/
theorem decodeWordIgnoresUninterpretedBits : Obligations.DecodeWordIgnoresUninterpretedBits := by
  intro s w w' same
  rw [← exec_decodeWord_and_mask w, same, exec_decodeWord_and_mask]

/-- Settles O6: NOP ends the pulse, and its cycle runs it. -/
theorem nopWritesOnlyRNew : Obligations.NopWritesOnlyRNew := by
  obtain ⟨runs, decodes⟩ := stepRunsTheDecodedCommand
  refine fun s => ⟨fun _ => rfl, fun hi lo rest inputs => ?_⟩
  obtain ⟨nop, -⟩ := decodes hi lo
  exact runs s _ hi lo rest _ inputs nop

/-- Settles O7: a W-bit offset is written as it is, and a slice of the window is a quotient narrowed to its width. -/
theorem writeResultFollowsItsProcedure : Obligations.WriteResultFollowsItsProcedure := by
  intro s w off scan fits
  refine ⟨fun d => ?_, fun r => ?_, fun _ => rfl⟩
  all_goals
    simp only [State.writeResult, narrow_of_lt fits, hdrVer, hdrLay, hdrBrIdx, hdrSrIdx, slice_eq_ofNat]
    rfl

/-- Settles O8: DECODE_WORD is WriteResult at offset 0, and its cycle runs it. -/
theorem decodeWordWritesTheResult : Obligations.DecodeWordWritesTheResult := by
  intro s w
  obtain ⟨accepts, rejects, -⟩ := writeResultFollowsItsProcedure s w 0 false (Nat.two_pow_pos _)
  refine ⟨fun d accepted => ?_, fun r rejected => ?_, fun hi lo rest inputs word => ?_⟩
  · rw [exec_decodeWord, accepted, accepts]
  · rw [exec_decodeWord, rejected, rejects]
  · obtain ⟨runs, decodes⟩ := stepRunsTheDecodedCommand
    obtain ⟨-, decodeWord, -⟩ := decodes hi lo
    subst word
    exact runs s _ hi lo rest _ inputs decodeWord

end

section
/-! ### PUSH_BYTE and CLEAR, one command at a time (spec/44_stream_scanner.md R193, R194, R198, R200) -/

namespace Sys2Proof.Laws

open Sys2Proof.Machine

/-- With room in POS a byte is shifted in as R193 writes it. -/
theorem shiftIn_eq {s : State} (h : s.Inv) (room : s.pos ≠ 2 ^ s.offsetW - 1) (b : Byte) :
    s.shiftIn b =
      { s with
        win := s.pushedWindow b, fill := BitVec.ofNat 3 (min (s.fill.toNat + 1) 4), pos := s.pos + 1 } := by
  have pos : s.narrow (s.pos + 1) = s.pos + 1 := shiftIn_pos_of_room h.posFits room b
  rw [State.shiftIn, shiftWindow_eq_pushedWindow, State.nextFill, pos]

/-- FRAME_COUNT has room for one more record, by its bound below POS. -/
theorem narrow_frameCount_succ {s : State} (h : s.Inv) : s.narrow (s.frameCount + 1) = s.frameCount + 1 := by
  have fits := h.posFits
  have bound := h.countBound
  have one_lt : 1 < 2 ^ s.offsetW := Nat.one_lt_two_pow (Nat.ne_of_gt (Nat.lt_of_lt_of_le (by decide) h.width))
  exact narrow_of_lt (by omega)

/-- An evaluation as R193 writes it: the byte shifted in, then the result written at offset POS − 3. -/
theorem evaluateCandidate_eq_writeResult {s : State} (h : s.Inv) (room : s.pos ≠ 2 ^ s.offsetW - 1) {b : Byte}
    (cand : s.candidate b) :
    s.evaluateCandidate b =
      ({ s with win := s.pushedWindow b, fill := 4, pos := s.pos + 1 }.writeResult
        (decodeWindow (s.pushedWindow b)) (s.pushedWindow b) (s.pos - 3) true).countRecord
          (decodeWindow (s.pushedWindow b)) := by
  have three := three_le_pos h.fillIsMin cand
  rw [evaluateCandidate_eq, candidateOffset_of_fits h.posFits three, shiftIn_eq h room, cand.1]
  rfl

theorem pushByte_of_isPush {i : Instr} (push : isPush i = true) : ∃ g b, i = .pushByte g b := by
  cases i <;> cases push
  exact ⟨_, _, rfl⟩

/-- The three ways a push can go, by the state it leaves. -/
theorem pushByte_next_cases {s t : State} {g : BitVec 24} {b : Byte} (next : exec (.pushByte g b) s = .next t) :
    (s.pos = 2 ^ s.offsetW - 1 ∧ t = s.dropByte) ∨
    (s.pos ≠ 2 ^ s.offsetW - 1 ∧ s.candidate b ∧ t = s.evaluateCandidate b) ∨
    (s.pos ≠ 2 ^ s.offsetW - 1 ∧ ¬ s.candidate b ∧ t = (s.shiftIn b).endPulse) := by
  rcases exec_next_cases next with ⟨_, ⟨⟩, -⟩ | ⟨_, ⟨⟩, -⟩ | ⟨_, _, ⟨⟩, ways⟩ | ⟨⟨⟩, -⟩
  exact ways

/-- POS is not full before the third byte, for OFFSET_W is at least 3. -/
theorem pos_not_full {s : State} (h : s.Inv) (few : s.pos < 3) : s.pos ≠ 2 ^ s.offsetW - 1 := by
  have width : 2 ^ 3 ≤ 2 ^ s.offsetW := Nat.pow_le_pow_right (by decide) h.width
  omega

end Sys2Proof.Laws

open Sys2Proof Sys2Proof.Machine Sys2Proof.Laws

/-- Settles O26: the push's cycle runs it; it drops its byte, only shifts it in, or also writes the result of
`Decode`. -/
theorem pushByteFollowsItsPseudocode : Obligations.PushByteFollowsItsPseudocode := by
  intro s g b h
  refine ⟨fun hi rest inputs => ?step, fun full => exec_pushByte_of_full full g b, fun room noCand => ?shifted,
    fun room cand d accepted => ⟨three_le_pos h.fillIsMin cand, ?accepted⟩,
    fun room cand r rejected => ⟨three_le_pos h.fillIsMin cand, ?rejected⟩⟩
  case step =>
    obtain ⟨runs, decodes⟩ := stepRunsTheDecodedCommand
    obtain ⟨-, -, push, -⟩ := decodes hi b
    exact runs s _ hi b rest _ inputs push
  case shifted =>
    rw [exec_pushByte_of_not_candidate room noCand, shiftIn_eq h room]
    rfl
  all_goals
    have fits : s.pos - 3 < 2 ^ s.offsetW := Nat.lt_of_le_of_lt (Nat.sub_le ..) h.posFits
    obtain ⟨accepts, rejects, -⟩ := writeResultFollowsItsProcedure
      { s with win := s.pushedWindow b, fill := 4, pos := s.pos + 1 } (s.pushedWindow b) (s.pos - 3) true fits
    rw [exec_pushByte_of_evaluates ⟨room, cand⟩, evaluateCandidate_eq_writeResult h room cand]
  case accepted =>
    rw [accepted, accepts, ← narrow_frameCount_succ h]
    rfl
  case rejected => rw [rejected, rejects, State.countRecord_reject]

/-- Settles O27: a push that evaluates nothing drops its byte or shifts it in, and ends the pulse. -/
theorem nonEvaluatingPushKeepsTheResult : Obligations.NonEvaluatingPushKeepsTheResult := by
  intro s t g b noEval next
  rcases pushByte_next_cases next with ⟨-, rfl⟩ | ⟨room, cand, -⟩ | ⟨-, -, rfl⟩
  · and_intros <;> rfl
  · exact absurd ⟨room, cand⟩ noEval
  · and_intros <;> rfl

/-- Settles O28: OVF is set only with POS full, and then a push drops its byte; no other instruction but CLEAR writes
the scan state. -/
theorem overflowLastsUntilClear : Obligations.OverflowLastsUntilClear := by
  refine ⟨fun s g b full => exec_pushByte_of_full full g b, fun s t i h ovf noClear next => ?_⟩
  have full := h.ovfMeansFull ovf
  cases push : isPush i
  · obtain ⟨pos, win, fill, count, sameOvf, -⟩ := onlyPushAndClearChangeTheScanState s t i push noClear next
    exact ⟨sameOvf.trans ovf, pos, win, fill, count, nofun⟩
  · obtain ⟨g, b, rfl⟩ := pushByte_of_isPush push
    cases (exec_pushByte_of_full full g b).symm.trans next
    refine ⟨rfl, rfl, rfl, rfl, rfl, fun _ => ⟨fun ev => ev.1 full, ?_⟩⟩
    rw [State.dropByte, ← ovf]

/-- Settles O30: FILL counts the bytes pushed, so a candidate has three before it, and POS is not full. -/
theorem firstThreePushesNeverEvaluate : Obligations.FirstThreePushesNeverEvaluate := by
  intro s t g b h few next
  have room := pos_not_full h few
  have noCand : ¬ s.candidate b := fun cand => absurd (three_le_pos h.fillIsMin cand) (Nat.not_le_of_lt few)
  have fill := h.fillIsMin
  cases (exec_pushByte_of_not_candidate room noCand g).symm.trans next
  refine ⟨rfl, shiftIn_pos_of_room h.posFits room b, ?_⟩
  rw [State.endPulse_fill, shiftIn_fill_toNat]
  omega

/-- Settles O4: CLEAR's writes are those of a reset edge, and its cycle runs it. -/
theorem clearSetsEveryElement : Obligations.ClearSetsEveryElement := by
  refine fun s => ⟨fun _ => rfl, fun hi lo rest inputs => ?_, rfl⟩
  obtain ⟨runs, decodes⟩ := stepRunsTheDecodedCommand
  obtain ⟨-, -, -, clear⟩ := decodes hi lo
  exact runs s _ hi lo rest _ inputs clear

end

section
/-! ### Runs of the block (spec/44_stream_scanner.md R201 to R203, spec/10_state.md R27) -/

namespace Sys2Proof.Laws

open Sys2Proof.Machine

/-- Every step takes the oldest cycle, and is a reset edge or runs one instruction. -/
theorem step_takes_cycle {s t : State} (next : step s = .next t) :
    ∃ p, s.inputs = p :: t.inputs ∧
      ((p.request = .reset ∧ t = { s with inputs := t.inputs }.resetEdge) ∨
       ∃ i, p.request = .run i ∧ exec i { s with inputs := t.inputs } = .next t) := by
  obtain ⟨p, rest, inputs, ⟨request, rfl⟩ | ⟨i, request, run⟩⟩ := step_next next
  · exact ⟨p, inputs, .inl ⟨request, rfl⟩⟩
  · obtain rfl : t.inputs = rest := exec_inputs run
    exact ⟨p, inputs, .inr ⟨i, request, run⟩⟩

/-- What holds at the start of a run and is kept by the step of each of its cycles holds after each step. -/
theorem forall_trace {P : State → Prop} {k : Nat} {s : State} (start : P s)
    (keeps : ∀ p ∈ s.inputs.take k, ∀ u t, u.inputs = p :: t.inputs → step u = .next t → P u → P t) :
    ∀ t ∈ trace k s, P t := by
  induction k generalizing s with
  | zero => exact fun _ => nofun
  | succ k ih =>
    by_cases stops : ∀ t, step s ≠ .next t
    · rw [trace_stop stops]
      exact fun _ => nofun
    · obtain ⟨t, next⟩ := not_forall_not.mp stops
      obtain ⟨p, inputs, -⟩ := step_takes_cycle next
      rw [inputs, List.take_succ_cons, List.forall_mem_cons] at keeps
      obtain ⟨first, later⟩ := keeps
      have stepped : P t := first s t inputs next start
      rw [trace_next next]
      exact List.forall_mem_cons.mpr ⟨stepped, ih stepped later⟩

/-- Every state of a run from a state that meets the invariant meets it. -/
theorem trace_inv {k : Nat} {s : State} (h : s.Inv) : ∀ t ∈ trace k s, t.Inv :=
  forall_trace h fun _ _ u t _ next hu => stepKeepsTheInvariant u t hu next

theorem finalState_inv {k : Nat} {s : State} (h : s.Inv) : (finalState k s).Inv := by
  rw [finalState, List.getLastD_eq_getLast?]
  rcases last : (trace k s).getLast? with _ | t
  · exact h
  · exact trace_inv h t (List.mem_of_getLast? last)

/-! FRAME_COUNT, POS and the records of a stream. -/

/-- FRAME_COUNT goes up with each record. -/
theorem evaluateCandidate_frameCount {s : State} (h : s.Inv) {b : Byte} (cand : s.candidate b) :
    (s.evaluateCandidate b).frameCount = s.frameCount + (s.evaluateCandidate b).record.toList.length := by
  rcases window : decodeWindow (s.pushedWindow b) with d | r
  · rw [(evaluateCandidate_record_iff h cand _).mpr ⟨d, window, rfl⟩, evaluateCandidate_eq, window]
    have counted : s.narrow (s.frameCount + 1) = s.frameCount + 1 := narrow_frameCount_succ h
    exact counted
  · have rejected : (s.evaluateCandidate b).rAccept = false := by
      rw [evaluateCandidate_eq, window]
      rfl
    rw [record_of_not_accept rejected, evaluateCandidate_eq, window]
    rfl

/-- What a cycle that neither resets nor clears the block does to the stream: POS does not fall, FRAME_COUNT counts the
record presented, and that record is of the window that ends at POS. -/
structure StreamStep (s t : State) : Prop where
  pos : s.pos ≤ t.pos
  count : t.frameCount = s.frameCount + t.record.toList.length
  offset : ∀ entry, t.record = some entry → entry.1 + 3 = s.pos ∧ s.pos < t.pos

theorem StreamStep.of_no_record {s t : State} (pos : s.pos ≤ t.pos) (count : t.frameCount = s.frameCount)
    (record : t.record = none) : StreamStep s t where
  pos := pos
  count := by rw [record, count]; rfl
  offset _ presented := by cases record.symm.trans presented

/-- Every instruction but CLEAR takes such a step: of the others only a push that evaluates presents a record. -/
theorem exec_streamStep {s t : State} {i : Instr} (h : s.Inv) (noClear : isClear i = false)
    (next : exec i s = .next t) : StreamStep s t := by
  rcases exec_next_cases next with ⟨_, -, rfl⟩ | ⟨_, rfl, -⟩ |
      ⟨_, b, -, ⟨-, rfl⟩ | ⟨room, cand, rfl⟩ | ⟨room, -, rfl⟩⟩ | ⟨-, -, -, res, w, rfl, -⟩
  · exact .of_no_record (Nat.le_refl _) rfl (record_of_not_new rfl)
  · cases noClear
  · exact .of_no_record (Nat.le_refl _) rfl (record_of_not_new rfl)
  · have pos := (evaluateCandidate_pos s b).trans (shiftIn_pos_of_room h.posFits room b)
    refine ⟨pos ▸ Nat.le_succ _, evaluateCandidate_frameCount h cand, fun entry record => ?_⟩
    obtain ⟨d, -, rfl⟩ := (evaluateCandidate_record_iff h cand entry).mp record
    exact ⟨Nat.sub_add_cancel (three_le_pos h.fillIsMin cand), pos ▸ Nat.lt_succ_self _⟩
  · have pos : (s.shiftIn b).pos = s.pos + 1 := shiftIn_pos_of_room h.posFits room b
    exact .of_no_record (pos ▸ Nat.le_succ _) rfl (record_of_not_new rfl)
  · exact .of_no_record (by simp) (by simp) (record_of_not_scan (State.writeResult_rScan ..))

/-- The command word of a cycle carries the cycle's code. -/
theorem commandWord_code {cmd : BitVec 2} {hi : Option (BitVec 24)} {lo : Option Byte} {c : BitVec 34}
    (word : commandWord cmd hi lo = some c) : c.extractLsb' 32 2 = cmd := by
  have parts : c = cmd ++ (hi.getD 0 ++ lo.getD 0) := by
    simp only [commandWord] at word
    split_ifs at word <;> cases word <;> rfl
  rw [parts, extract_high]

theorem isClear_decodeCommand {c : BitVec 34} (code : c.extractLsb' 32 2 ≠ 0b11#2) :
    isClear (decodeCommand c) = false := by
  have last : ∀ v : BitVec 2, v ≠ 0b00#2 → v ≠ 0b01#2 → v ≠ 0b10#2 → v = 0b11#2 := by decide
  simp only [decodeCommand]
  split_ifs with nop decode push
  · rfl
  · rfl
  · rfl
  · exact absurd (last _ nop decode push) code

/-- A cycle that keeps the stream asks for no reset and no CLEAR. -/
theorem request_of_keepsStream {p : Pins} (keeps : p.keepsStream) :
    p.request ≠ .reset ∧ ∀ i, p.request = .run i → isClear i = false := by
  obtain ⟨noReset, noClear⟩ := keeps
  rcases p with ⟨_ | _ | _, _ | cmd, hi, lo⟩
  case some.false.some =>
    rcases word : commandWord cmd hi lo with _ | c
    · simp [Pins.request, word]
    · have code : c.extractLsb' 32 2 ≠ 0b11#2 := commandWord_code word ▸ fun clear => noClear (congrArg some clear)
      simp [Pins.request, word, isClear_decodeCommand code]
  case some.true.none | some.true.some => exact absurd rfl noReset
  all_goals exact ⟨nofun, nofun⟩

theorem step_streamStep {s t : State} {p : Pins} (h : s.Inv) (inputs : s.inputs = p :: t.inputs)
    (keeps : p.keepsStream) (next : step s = .next t) : StreamStep s t := by
  obtain ⟨noReset, noClear⟩ := request_of_keepsStream keeps
  obtain ⟨q, cycles, ⟨reset, -⟩ | ⟨i, request, run⟩⟩ := step_takes_cycle next
  all_goals cases inputs.symm.trans cycles
  · exact absurd reset noReset
  · obtain ⟨pos, count, offset⟩ := exec_streamStep (withInputs_inv h _) (noClear i request) run
    exact ⟨pos, count, offset⟩

/-- In a run that keeps the stream FRAME_COUNT counts the records, and their offsets rise from three below POS. -/
theorem records_of_stream {k : Nat} {s : State} (h : s.Inv) (keeps : ∀ p ∈ s.inputs.take k, p.keepsStream) :
    (finalState k s).frameCount = s.frameCount + (records k s).length ∧
      (∀ entry ∈ records k s, s.pos ≤ entry.1 + 3) ∧ (records k s).Pairwise fun a b => a.1 < b.1 := by
  induction k generalizing s with
  | zero => exact ⟨rfl, fun _ => nofun, .nil⟩
  | succ k ih =>
    by_cases stops : ∀ t, step s ≠ .next t
    · rw [records_stop stops, finalState_stop stops]
      exact ⟨rfl, fun _ => nofun, .nil⟩
    · obtain ⟨t, next⟩ := not_forall_not.mp stops
      obtain ⟨p, inputs, -⟩ := step_takes_cycle next
      rw [inputs, List.take_succ_cons, List.forall_mem_cons] at keeps
      obtain ⟨pos, count, offset⟩ := step_streamStep h inputs keeps.1 next
      obtain ⟨counts, above, rising⟩ := ih (stepKeepsTheInvariant s t h next) keeps.2
      rw [finalState_next next, records_next next, counts, count, List.length_append, List.pairwise_append]
      simp only [List.mem_append, Option.mem_toList]
      refine ⟨Nat.add_assoc .., ?above, ?single, rising, fun a first b later => ?rises⟩
      case above =>
        rintro entry (first | later)
        · exact (offset entry first).1 ▸ Nat.le_refl _
        · exact Nat.le_trans pos (above entry later)
      case single => cases t.record <;> simp
      case rises =>
        have := offset a first
        have := above b later
        omega

end Sys2Proof.Laws

open Sys2Proof Sys2Proof.Machine Sys2Proof.Laws

/-- Settles O33: each cycle adds its record to FRAME_COUNT, and the invariant gives the bounds. -/
theorem frameCountCountsRecords : Obligations.FrameCountCountsRecords := by
  intro k s h keeps
  obtain ⟨counts, -⟩ := records_of_stream h keeps
  have final := finalState_inv (k := k) h
  exact ⟨counts, fun nonzero => final.countBound.resolve_left nonzero, final.posFits⟩

/-- Settles O34: a record's offset is three below POS before its push, and POS then rises. -/
theorem recordOffsetsStrictlyIncrease : Obligations.RecordOffsetsStrictlyIncrease := by
  intro k s h keeps
  obtain ⟨-, -, rising⟩ := records_of_stream h keeps
  exact rising

/-- Settles O52: the three bounds are clauses of the invariant. -/
theorem reachableStatesMeetTheBounds : Obligations.ReachableStatesMeetTheBounds := by
  intro w k inputs width t reached
  have h := trace_inv (resetOf_inv width inputs) t reached
  have fill := h.fillIsMin
  have count := h.countBound
  exact ⟨by omega, by omega, fun scan valid => h.offsetBound valid scan⟩

end

section
/-! ### Streams of commands, and the source's scan (spec/44_stream_scanner.md R191, R192, R196, R203) -/

namespace Sys2Proof.Laws

open Sys2Proof.Machine

/-! The cycles that present commands. -/

/-- The cycle of a command asks for it. -/
theorem request_ofInstr_of_command {i : Instr} (command : i.header = none) : (Pins.ofInstr i).request = .run i := by
  rw [request_ofInstr, command]

/-- The cycle of an instruction asks for it, or, for a header class, for a DECODE_WORD (log entry 1). -/
theorem request_ofInstr_cases (i : Instr) :
    (Pins.ofInstr i).request = .run i ∨
      isPush i = false ∧ ∃ w, (Pins.ofInstr i).request = .run (.decodeWord w) := by
  rcases header : i.header with _ | ⟨h, w⟩
  · exact .inl (request_ofInstr_of_command header)
  · refine .inr ⟨?_, w, by rw [request_ofInstr, header]⟩
    cases push : isPush i
    · rfl
    · obtain ⟨_, _, rfl⟩ := pushByte_of_isPush push
      cases header

theorem exec_completes (i : Instr) (s : State) : ∃ t, exec i s = .next t := by
  rcases exec_cases i s with ⟨_, -, run⟩ | ⟨_, -, run⟩ | ⟨_, _, -, ⟨-, run⟩ | ⟨-, -, run⟩ | ⟨-, -, run⟩⟩ |
    ⟨-, -, -, res, w, run, -⟩
  exacts [⟨_, run⟩, ⟨_, run⟩, ⟨_, run⟩, ⟨_, run⟩, ⟨_, run⟩, ⟨_, run s⟩]

theorem pushedBytes_subset {i : Instr} {is : List Instr} (hi : i ∈ is) : pushedBytes [i] ⊆ pushedBytes is :=
  ((List.singleton_sublist.mpr hi).filterMap _).subset

theorem pushedBytes_cons_of_not_push {i : Instr} (noPush : isPush i = false) (is : List Instr) :
    pushedBytes (i :: is) = pushedBytes is := by
  cases i
  case pushByte => cases noPush
  all_goals rfl

/-! A stream without 0xFF (R203). -/

/-- No byte of WIN that a later window can start with is 0xFF, and the scan has left no result. -/
structure Silent (s : State) : Prop where
  noSync : ∀ k < 3, s.win.toNat / 2 ^ (8 * k) % 2 ^ 8 ≠ 255
  rScan : s.rScan = false
  frameCount : s.frameCount = 0

theorem Silent.resetOf (w : Nat) (inputs : List Pins) : Silent { State.resetOf w with inputs := inputs } where
  noSync k _ := by simp [State.resetOf]
  rScan := rfl
  frameCount := rfl

theorem Silent.withInputs {s : State} (h : Silent s) (l : List Pins) : Silent { s with inputs := l } :=
  ⟨h.noSync, h.rScan, h.frameCount⟩

/-- The window after a push starts with the third byte of WIN. -/
theorem Silent.not_candidate {s : State} (h : Silent s) (b : Byte) : ¬ s.candidate b := by
  rintro ⟨-, first⟩
  have third := h.noSync 2 (by decide)
  have hb := b.isLt
  rw [← shiftWindow_eq_pushedWindow, shiftWindow_toNat] at first
  omega

theorem Silent.shiftIn {s : State} (h : Silent s) {b : Byte} (other : b ≠ 0xFF#8) : Silent (s.shiftIn b) := by
  refine ⟨fun k hk => ?_, h.rScan, h.frameCount⟩
  have hb := b.isLt
  have first := h.noSync 0 (by decide)
  have second := h.noSync 1 (by decide)
  rw [ne_eq, ← BitVec.toNat_inj, BitVec.toNat_ofNat] at other
  rw [State.shiftIn_win, shiftWindow_toNat]
  interval_cases k <;> omega

/-- An instruction that does not push 0xFF keeps the silence. -/
theorem Silent.of_exec {s t : State} {i : Instr} (h : Silent s) (other : 0xFF#8 ∉ pushedBytes [i])
    (next : exec i s = .next t) : Silent t := by
  rcases exec_next_cases next with ⟨_, -, rfl⟩ | ⟨_, -, rfl⟩ |
      ⟨g, b, rfl, ⟨-, rfl⟩ | ⟨-, cand, -⟩ | ⟨-, -, rfl⟩⟩ | ⟨-, -, -, res, w, rfl, -⟩
  · exact ⟨h.noSync, h.rScan, h.frameCount⟩
  · exact Silent.resetOf s.offsetW s.inputs
  · exact ⟨h.noSync, h.rScan, h.frameCount⟩
  · exact absurd cand (h.not_candidate b)
  · obtain ⟨noSync, rScan, frameCount⟩ := h.shiftIn (b := b) fun sync => other (by simp [pushedBytes, sync])
    exact ⟨noSync, rScan, frameCount⟩
  · exact ⟨by simpa using h.noSync, by simp, by simpa using h.frameCount⟩

/-- The cycle of an instruction that does not push 0xFF keeps the silence. -/
theorem Silent.of_step {s t : State} {i : Instr} (h : Silent s) (other : 0xFF#8 ∉ pushedBytes [i])
    (inputs : s.inputs = Pins.ofInstr i :: t.inputs) (next : step s = .next t) : Silent t := by
  rcases request_ofInstr_cases i with request | ⟨-, w, request⟩
  · exact (h.withInputs _).of_exec other ((step_of_request inputs request).symm.trans next)
  · exact (h.withInputs _).of_exec (i := .decodeWord w) nofun ((step_of_request inputs request).symm.trans next)

/-- A push that evaluates nothing keeps R_VALID, and so does a NOP. -/
theorem Silent.step_rValid {s t : State} {i : Instr} (h : Silent s)
    (quiet : isPush i = true ∨ ∃ ignored, i = .nop ignored) (inputs : s.inputs = Pins.ofInstr i :: t.inputs)
    (next : step s = .next t) : t.rValid = s.rValid := by
  rcases quiet with push | ⟨_, rfl⟩
  · obtain ⟨g, b, rfl⟩ := pushByte_of_isPush push
    have run := (step_pushByte inputs).symm.trans next
    obtain ⟨-, rValid, -⟩ :=
      nonEvaluatingPushKeepsTheResult _ t g b (fun ev => (h.withInputs t.inputs).not_candidate b ev.2) run
    exact rValid
  · have run := (step_of_request inputs (request_ofInstr_of_command rfl)).symm.trans next
    exact (congrArg State.rValid (Host.Outcome.next.inj run)).symm

/-- What R203 says of a state of a run that presents the instructions `is`. -/
structure SilentIn (is : List Instr) (s : State) : Prop extends Silent s where
  rValid : (∀ i ∈ is, isPush i = true ∨ ∃ ignored, i = .nop ignored) → s.rValid = false

theorem SilentIn.of_step {is : List Instr} {s t : State} {i : Instr} (h : SilentIn is s) (hi : i ∈ is)
    (other : 0xFF#8 ∉ pushedBytes is) (inputs : s.inputs = Pins.ofInstr i :: t.inputs) (next : step s = .next t) :
    SilentIn is t where
  toSilent := h.toSilent.of_step (fun sync => other (pushedBytes_subset hi sync)) inputs next
  rValid quiet := (h.toSilent.step_rValid (quiet i hi) inputs next).trans (h.rValid quiet)

/-! The windows of a stream (R196). -/

/-- A byte after a value counts in units of 1. -/
theorem append_byte_toNat {n : Nat} (x : BitVec n) (b : Byte) : (x ++ b).toNat = x.toNat * 2 ^ 8 + b.toNat := by
  rw [BitVec.toNat_append, ← Nat.shiftLeft_add_eq_or_of_lt b.isLt, Nat.shiftLeft_eq]

/-- The bytes of the word of four bytes. -/
theorem bytesOfWord_append (b0 b1 b2 b3 : Byte) : bytesOfWord (b0 ++ b1 ++ b2 ++ b3) = [b0, b1, b2, b3] := by
  have word : (b0 ++ b1 ++ b2 ++ b3).toNat = ((b0.toNat * 2 ^ 8 + b1.toNat) * 2 ^ 8 + b2.toNat) * 2 ^ 8 + b3.toNat := by
    rw [append_byte_toNat, append_byte_toNat, append_byte_toNat]
  simp only [bytesOfWord, List.cons.injEq, slice_eq_iff, word, and_true]
  omega

/-- A stream has a window at an offset when four bytes are left, and they are the window's. -/
theorem windowAt_cases (bytes : List Byte) (i : Nat) :
    (bytes.length < i + 4 ∧ windowAt bytes i = none) ∨
      (i + 4 ≤ bytes.length ∧ ∃ w rest, bytes.drop i = bytesOfWord w ++ rest ∧ windowAt bytes i = some w) := by
  have length : (bytes.drop i).length = bytes.length - i := List.length_drop
  rcases tail : bytes.drop i with _ | ⟨b0, _ | ⟨b1, _ | ⟨b2, _ | ⟨b3, rest⟩⟩⟩⟩
  all_goals
    rw [tail] at length
    simp only [List.length_nil, List.length_cons] at length
  case cons.cons.cons.cons =>
    exact .inr ⟨by omega, b0 ++ b1 ++ b2 ++ b3, rest, by rw [bytesOfWord_append]; rfl, by rw [windowAt, tail]⟩
  all_goals exact .inl ⟨by omega, by rw [windowAt, tail]⟩

/-- The window at an offset is what WIN holds after the push of its last byte. -/
theorem windowAt_eq_some_iff {bytes : List Byte} {i : Nat} {w : Word} :
    windowAt bytes i = some w ↔ i + 4 ≤ bytes.length ∧ (bytes.take (i + 4)).foldl shiftWindow 0 = w := by
  rcases windowAt_cases bytes i with ⟨short, window⟩ | ⟨complete, v, rest, tail, window⟩
  · simp [window, short]
  · have last : (bytesOfWord v ++ rest).take 4 = bytesOfWord v := List.take_left' rfl
    rw [window, List.take_add, tail, List.foldl_append, last, foldl_shiftWindow_bytesOfWord]
    simp [complete]

/-- The byte at an offset is the first of its window. -/
theorem getElem?_of_windowAt {bytes : List Byte} {i : Nat} {w : Word} (window : windowAt bytes i = some w) :
    bytes[i]? = some (firstByte w) := by
  rcases windowAt_cases bytes i with ⟨-, absent⟩ | ⟨-, v, rest, tail, present⟩
  · cases absent.symm.trans window
  · cases present.symm.trans window
    have first : (bytes.drop i)[0]? = bytes[i]? := List.getElem?_drop
    rw [← first, tail]
    rfl

/-- The pre-filter of `scan` loses no accepted window (R192, 41_header_decode.md R135). -/
theorem scanEntry_eq_some_iff {bytes : List Byte} {i : Nat} {entry : Nat × Descriptor} :
    scanEntry bytes i = some entry ↔
      ∃ w d, windowAt bytes i = some w ∧ decodeWindow w = .accept d ∧ entry = (i, d) := by
  rw [scanEntry]
  rcases window : windowAt bytes i with _ | w
  · simp
  · rw [getElem?_of_windowAt window]
    rcases decoded : decodeWindow w with d | r
    · have sync : firstByte w = syncByte := by
        rw [firstByte, slice_eq_iff]
        have := acceptedWindowsStartWithSyncBytes w d decoded
        have : syncByte.toNat = 255 := rfl
        omega
      simp [sync, decoded, eq_comm]
    · simp [decoded]

/-- Later bytes do not change the entry of a window that is complete. -/
theorem scanEntry_append {bytes : List Byte} {i : Nat} (complete : i + 4 ≤ bytes.length) (b : Byte) :
    scanEntry (bytes ++ [b]) i = scanEntry bytes i := by
  have window w : windowAt (bytes ++ [b]) i = some w ↔ windowAt bytes i = some w := by
    rw [windowAt_eq_some_iff, windowAt_eq_some_iff, List.take_append_of_le_length complete, List.length_append]
    simp [complete, Nat.le_succ_of_le complete]
  ext entry
  simp only [scanEntry_eq_some_iff, window]

/-- A window that is not complete makes no entry. -/
theorem scanEntry_of_incomplete {bytes : List Byte} {i : Nat} (incomplete : bytes.length < i + 4) :
    scanEntry bytes i = none := by
  rw [Option.eq_none_iff_forall_ne_some]
  intro entry made
  obtain ⟨w, d, window, -⟩ := scanEntry_eq_some_iff.mp made
  exact absurd (windowAt_eq_some_iff.mp window).1 (Nat.not_le_of_lt incomplete)

/-- `scan` visits the complete windows. -/
theorem scan_eq_complete (bytes : List Byte) :
    scan bytes = (List.range (bytes.length - 3)).filterMap (scanEntry bytes) := by
  have incomplete : ((List.range (bytes.length - (bytes.length - 3))).map (bytes.length - 3 + ·)).filterMap
      (scanEntry bytes) = [] := by
    simp only [List.filterMap_eq_nil_iff, List.forall_mem_map]
    exact fun _ _ => scanEntry_of_incomplete (by omega)
  rw [scan, ← Nat.add_sub_cancel' (Nat.sub_le bytes.length 3), List.range_add, List.filterMap_append, incomplete]
  simp

/-- One more byte completes one more window. -/
theorem scan_append_singleton (bytes : List Byte) (b : Byte) :
    scan (bytes ++ [b]) = scan bytes ++ (scanEntry (bytes ++ [b]) (bytes.length - 3)).toList := by
  have length : (bytes ++ [b]).length = bytes.length + 1 := List.length_append
  rw [scan_eq_complete, scan_eq_complete bytes, length]
  rcases Nat.lt_or_ge bytes.length 3 with few | three
  · have before : bytes.length - 3 = 0 := by omega
    have after : bytes.length + 1 - 3 = 0 := by omega
    rw [before, after, scanEntry_of_incomplete (by omega)]
    rfl
  · have earlier : ∀ i ∈ List.range (bytes.length - 3), scanEntry (bytes ++ [b]) i = scanEntry bytes i :=
      fun i hi => scanEntry_append (by have := List.mem_range.mp hi; omega) b
    rw [Nat.sub_add_comm three, List.range_succ, List.filterMap_append, List.filterMap_congr earlier]
    cases entry : scanEntry (bytes ++ [b]) (bytes.length - 3) <;> simp [entry]

/-! The records of a stream (R196). -/

theorem Scanned.append {s t u : State} {bs cs : List Byte} (first : Scanned s bs t) (later : Scanned t cs u) :
    Scanned s (bs ++ cs) u where
  inv := later.inv
  offsetW := later.offsetW.trans first.offsetW
  pos := by rw [later.pos, first.pos, List.length_append, Nat.add_assoc]
  win := by rw [later.win, first.win, List.foldl_append]
  ovf := later.ovf.trans first.ovf

/-- The stream after a reset: the record after a push is the entry of the window it completes. -/
theorem record_eq_scanEntry {w : Nat} {bs : List Byte} {s t : State} {g : BitVec 24} {b : Byte}
    (scanned : Scanned (State.resetOf w) bs s) (room : s.pos ≠ 2 ^ s.offsetW - 1)
    (next : exec (.pushByte g b) s = .next t) : t.record = scanEntry (bs ++ [b]) (bs.length - 3) := by
  have pos : s.pos = bs.length := scanned.pos.trans (Nat.zero_add _)
  have fill := scanned.inv.fillIsMin
  have window : (bs ++ [b]).foldl shiftWindow 0 = s.pushedWindow b := by
    rw [← shiftWindow_eq_pushedWindow, scanned.win, List.foldl_append]
    rfl
  have whole : 3 ≤ bs.length → (bs ++ [b]).take (bs.length - 3 + 4) = bs ++ [b] := fun three =>
    List.take_of_length_le (by rw [List.length_append, List.length_singleton]; omega)
  ext entry
  rw [recordsAreAcceptedScanWindows s t _ entry scanned.inv next, scanEntry_eq_some_iff]
  simp only [windowAt_eq_some_iff, List.length_append, List.length_singleton]
  constructor
  · rintro ⟨_, _, d, ⟨⟩, ⟨-, cand⟩, accepted, rfl⟩
    have three := three_le_pos fill cand
    refine ⟨_, d, ⟨by omega, ?_⟩, accepted, by rw [pos]⟩
    rw [whole (by omega), window]
  · rintro ⟨v, d, ⟨complete, rfl⟩, accepted, rfl⟩
    rw [whole (by omega), window] at accepted
    obtain ⟨sync, -⟩ := acceptedWindowsStartWithSyncBytes _ d accepted
    exact ⟨g, b, d, rfl, ⟨room, by omega, sync⟩, accepted, by rw [pos]⟩

/-- The step of a push with room in POS takes its byte and presents the entry of the window it completes. -/
theorem step_push_in_stream {w : Nat} {bs : List Byte} {s : State} {g : BitVec 24} {b : Byte} {rest : List Pins}
    (scanned : Scanned (State.resetOf w) bs s) (fits : bs.length < 2 ^ w - 1)
    (inputs : s.inputs = Pins.ofInstr (.pushByte g b) :: rest) :
    ∃ t, step s = .next t ∧ Scanned (State.resetOf w) (bs ++ [b]) t ∧ t.inputs = rest ∧
      t.record = scanEntry (bs ++ [b]) (bs.length - 3) := by
  have pos : s.pos = bs.length := scanned.pos.trans (Nat.zero_add _)
  have room : s.pos ≠ 2 ^ s.offsetW - 1 := by
    have width : s.offsetW = w := scanned.offsetW
    rw [pos, width]
    exact Nat.ne_of_lt fits
  obtain ⟨t, next, pushed, remaining⟩ := step_pushByte_scanned scanned.inv room inputs
  exact ⟨t, next, scanned.append pushed, remaining,
    record_eq_scanEntry (scanned.withInputs rest) room ((step_pushByte inputs).symm.trans next)⟩

theorem record_of_not_push {s t : State} {i : Instr} (noPush : isPush i = false) (next : exec i s = .next t) :
    t.record = none := by
  rw [Option.eq_none_iff_forall_ne_some]
  intro entry record
  obtain ⟨_, _, rfl, -⟩ := evaluating_push_of_record next record
  cases noPush

/-- The step of any other instruction but CLEAR leaves the stream and presents no record. -/
theorem step_other_in_stream {s₀ s : State} {bs : List Byte} {i : Instr} {rest : List Pins} (scanned : Scanned s₀ bs s)
    (noPush : isPush i = false) (noClear : isClear i = false) (inputs : s.inputs = Pins.ofInstr i :: rest) :
    ∃ t, step s = .next t ∧ Scanned s₀ bs t ∧ t.inputs = rest ∧ t.record = none := by
  obtain ⟨j, noPush, noClear, request⟩ :
      ∃ j, isPush j = false ∧ isClear j = false ∧ (Pins.ofInstr i).request = .run j := by
    rcases request_ofInstr_cases i with request | ⟨-, w, request⟩
    exacts [⟨i, noPush, noClear, request⟩, ⟨.decodeWord w, rfl, rfl, request⟩]
  obtain ⟨t, run⟩ := exec_completes j { s with inputs := rest }
  have next := (step_of_request inputs request).trans run
  obtain ⟨pos, win, fill, count, ovf, offsetW, remaining⟩ :=
    onlyPushAndClearChangeTheScanState _ t j noPush noClear run
  refine ⟨t, next, ⟨stepKeepsTheInvariant s t scanned.inv next, offsetW.trans scanned.offsetW, pos.trans scanned.pos,
    win.trans scanned.win, ovf.trans scanned.ovf⟩, remaining, record_of_not_push noPush run⟩

/-- The records of the rest of a stream are the entries that the scan of the whole adds to those of its beginning. -/
theorem scan_append_records {w : Nat} {is : List Instr} {rest : List Pins} (noClear : ∀ i ∈ is, isClear i = false)
    {bs : List Byte} {s : State} (scanned : Scanned (State.resetOf w) bs s)
    (fits : (bs ++ pushedBytes is).length ≤ 2 ^ w - 1) (inputs : s.inputs = is.map Pins.ofInstr ++ rest) :
    scan bs ++ records is.length s = scan (bs ++ pushedBytes is) := by
  induction is generalizing bs s with
  | nil => rw [List.length_nil, records, trace]; simp [pushedBytes]
  | cons i is ih =>
    obtain ⟨first, later⟩ := List.forall_mem_cons.mp noClear
    cases push : isPush i
    · obtain ⟨t, next, scanned, inputs, record⟩ := step_other_in_stream scanned push first inputs
      rw [pushedBytes_cons_of_not_push push] at fits ⊢
      rw [List.length_cons, records_next next, record]
      exact ih later scanned fits inputs
    · obtain ⟨g, b, rfl⟩ := pushByte_of_isPush push
      have pushed : bs ++ pushedBytes (.pushByte g b :: is) = bs ++ [b] ++ pushedBytes is :=
        (List.append_assoc bs [b] _).symm
      rw [pushed] at fits ⊢
      have room : bs.length < 2 ^ w - 1 := by
        simp only [List.length_append, List.length_singleton] at fits
        omega
      obtain ⟨t, next, scanned, inputs, record⟩ := step_push_in_stream scanned room inputs
      rw [List.length_cons, records_next next, record, ← List.append_assoc, ← scan_append_singleton]
      exact ih later scanned fits inputs

theorem keepsStream_ofCommand {c : BitVec 34} (code : c.extractLsb' 32 2 ≠ 0b11#2) : (Pins.ofCommand c).keepsStream :=
  ⟨nofun, fun clear => code (Option.some.inj clear)⟩

/-- The cycle of an instruction other than CLEAR keeps the stream. -/
theorem keepsStream_ofInstr {i : Instr} (noClear : isClear i = false) : (Pins.ofInstr i).keepsStream := by
  rcases header : i.header with _ | ⟨h, w⟩
  · cases i <;> simp only [Instr.header, reduceCtorEq] at header
    case clear => cases noClear
    all_goals exact keepsStream_ofCommand (by rw [extract_high]; decide)
  · rw [Pins.ofInstr, encode_header header]
    exact keepsStream_ofCommand (by rw [extract_high]; decide)

/-- The cycles of a stream of instructions, the first of those to come. -/
theorem forall_stream_cycle {C : Pins → Prop} {is : List Instr} {rest : List Pins} (h : ∀ i ∈ is, C (Pins.ofInstr i)) :
    ∀ p ∈ (is.map Pins.ofInstr ++ rest).take is.length, C p := by
  rw [List.take_left' (List.length_map _)]
  exact List.forall_mem_map.mpr h

end Sys2Proof.Laws

open Sys2Proof Sys2Proof.Machine Sys2Proof.Laws

/-- Settles O35: without 0xFF no window starts with it, and a push that evaluates nothing keeps R_VALID. -/
theorem noSyncByteNoRecord : Obligations.NoSyncByteNoRecord := by
  intro w is rest _ _ other t reached
  have start : SilentIn is { State.resetOf w with inputs := is.map Pins.ofInstr ++ rest } :=
    ⟨Silent.resetOf w _, fun _ => rfl⟩
  obtain ⟨silent, rValid⟩ := forall_trace start
    (forall_stream_cycle fun i hi u v inputs next h => h.of_step hi other inputs next) t reached
  exact ⟨record_of_not_scan silent.rScan, silent.rScan, silent.frameCount, rValid⟩

/-- Settles O36: each push presents the entry of the window it completes, and FRAME_COUNT counts the records. -/
theorem scanAgreesWithTheSource : Obligations.ScanAgreesWithTheSource := by
  intro w is rest width noClear fits
  have h := resetOf_inv width (is.map Pins.ofInstr ++ rest)
  have entries : records is.length _ = scan (pushedBytes is) :=
    scan_append_records noClear (bs := []) ⟨h, rfl, rfl, rfl, rfl⟩ fits rfl
  obtain ⟨counts, -⟩ := records_of_stream h (forall_stream_cycle fun i hi => keepsStream_ofInstr (noClear i hi))
  refine ⟨entries, ?_⟩
  rw [counts, entries]
  exact Nat.zero_add _

end

section
/-! ### The one way to stop, and what a rejection records (spec/60_exceptions.md R220, R221, R227, R234) -/

namespace Sys2Proof.Laws

open Sys2Proof.Machine

/-! The cycles that are refused. -/

/-- The cycles in which the command finds its operand defined. -/
theorem commandWord_isSome_iff {cmd : BitVec 2} {hi : Option (BitVec 24)} {lo : Option Byte} :
    (commandWord cmd hi lo).isSome = true ↔
      cmd = 0b00#2 ∨ cmd = 0b11#2 ∨ (cmd = 0b10#2 ∧ lo.isSome) ∨ (cmd = 0b01#2 ∧ hi.isSome ∧ lo.isSome) := by
  have code : cmd = 0b00#2 ∨ cmd = 0b11#2 ∨ cmd = 0b10#2 ∨ cmd = 0b01#2 := by revert cmd; decide
  rcases code with rfl | rfl | rfl | rfl
  · simp [commandWord]
  · simp [commandWord]
  · cases lo <;> simp [commandWord]
  · cases hi <;> cases lo <;> simp [commandWord]

/-- With `rst` = 0 a cycle is undefined exactly when its command has no word. -/
theorem request_run_eq_undefined_iff {cmd : BitVec 2} {hi : Option (BitVec 24)} {lo : Option Byte} :
    Pins.request ⟨some false, some cmd, hi, lo⟩ = .undefined ↔ ¬ (commandWord cmd hi lo).isSome = true := by
  rw [Pins.request]
  rcases word : commandWord cmd hi lo with _ | c <;> simp [word]

/-- A cycle is undefined to the model exactly when the host has not done its duty in it (R234). -/
theorem request_eq_undefined_iff {p : Pins} : p.request = .undefined ↔ ¬ p.defined := by
  rcases p with ⟨_ | _ | _, _ | cmd, hi, lo⟩
  case some.false.some =>
    rw [request_run_eq_undefined_iff, commandWord_isSome_iff]
    simp [Pins.defined]
  all_goals simp [Pins.request, Pins.defined]

/-! What every instruction keeps. -/

/-- OFFSET_W is a parameter: no instruction writes it. -/
theorem exec_offsetW {s t : State} {i : Instr} (next : exec i s = .next t) : t.offsetW = s.offsetW := by
  rcases exec_next_cases next with ⟨_, -, rfl⟩ | ⟨_, -, rfl⟩ |
      ⟨_, b, -, ⟨-, rfl⟩ | ⟨-, -, rfl⟩ | ⟨-, -, rfl⟩⟩ | ⟨-, -, -, res, w, rfl, -⟩
  · rfl
  · rfl
  · rfl
  · simp [evaluateCandidate_eq]
  · rfl
  · exact State.writeResult_offsetW ..

/-! What a rejection writes. -/

/-- The code of a rejection is one of 1 to 5 (41_header_decode.md R137). -/
theorem reason_code_bounds (r : Reason) : 1 ≤ r.code.toNat ∧ r.code.toNat ≤ 5 := by
  cases r <;> decide

/-- The fields of a rejected window that its code tells of. -/
theorem fields_of_reject {w : Word} {r : Reason} (rejected : decodeWindow w = .reject r) :
    (r.code = 2 → ¬ (hdrVer w = 0b11 ∧ hdrLay w = 0b01)) ∧
      (r.code = 3 → hdrVer w = 0b11 ∧ hdrLay w = 0b01 ∧ hdrBrIdx w = 0) ∧
      (r.code = 4 → hdrVer w = 0b11 ∧ hdrLay w = 0b01 ∧ hdrBrIdx w = 15) ∧
      (r.code = 5 → hdrVer w = 0b11 ∧ hdrLay w = 0b01 ∧ hdrBrIdx w ≠ 0 ∧ hdrBrIdx w ≠ 15 ∧ hdrSrIdx w = 3) := by
  rcases decodeWindow_cases w with ⟨answer, -⟩ | ⟨answer, -, other⟩ | ⟨answer, -, free⟩ | ⟨answer, -, reserved⟩ |
    ⟨answer, -, srate⟩ | ⟨_, _, answer, -⟩
  all_goals cases answer.symm.trans rejected
  · exact ⟨nofun, nofun, nofun, nofun⟩
  · exact ⟨fun _ => other, nofun, nofun, nofun⟩
  · exact ⟨nofun, fun _ => free, nofun, nofun⟩
  · exact ⟨nofun, nofun, fun _ => reserved, nofun⟩
  · exact ⟨nofun, nofun, nofun, fun _ => srate⟩

/-- An evaluation that leaves R_ACCEPT 0 has written the rejection of `Decode` for its window. -/
theorem rejection_written {s t : State} {i : Instr} (wf : i.wellFormed = true) (ev : evaluates i s)
    (next : exec i s = .next t) (rejected : t.rAccept = false) :
    ∃ (u : State) (w : Word) (r : Reason) (off : Nat) (scan : Bool),
      decodeWindow w = .reject r ∧ t = u.writeResult (.reject r) w off scan := by
  rcases exec_next_cases next with ⟨_, rfl, -⟩ | ⟨_, rfl, -⟩ | ⟨g, b, rfl, -⟩ |
      ⟨-, -, -, _, w, -, origin⟩
  · exact ev.elim
  · exact ev.elim
  · cases (exec_pushByte_of_evaluates ev).symm.trans next
    rw [evaluateCandidate_eq] at rejected ⊢
    rcases window : decodeWindow (s.pushedWindow b) with d | r
    · rw [window] at rejected
      cases rejected
    · exact ⟨_, _, r, _, _, window, rfl⟩
  · have run : exec (.decodeWord w) s = .next t := by
      rcases origin with ⟨rfl, -⟩ | ⟨h, header⟩
      · exact next
      · exact (headerClassesAgreeWithDecode i h w header wf s).symm.trans next
    cases (exec_decodeWord w s).symm.trans run
    rcases window : decodeWindow w with d | r
    · rw [window] at rejected
      cases rejected
    · exact ⟨_, w, r, _, _, window, rfl⟩

end Sys2Proof.Laws

open Sys2Proof Sys2Proof.Machine Sys2Proof.Laws

/-- Settles O25: the rejection of `Decode` is written, with its code, the window's raw fields and zeros. -/
theorem rejectionsAreRecorded : Obligations.RejectionsAreRecorded := by
  intro i s t wf ev next notAccepted
  obtain ⟨u, w, r, off, scan, rejected, rfl⟩ := rejection_written wf ev next notAccepted
  obtain ⟨positive, bound⟩ := reason_code_bounds r
  exact ⟨positive, bound, rfl, rfl, rfl, rfl, fields_of_reject rejected⟩

/-- Settles O42: each instruction has an answer, and none of them writes the cycles to come or OFFSET_W. -/
theorem everyInstructionCompletes : Obligations.EveryInstructionCompletes := by
  intro i s
  obtain ⟨t, run⟩ := exec_completes i s
  exact ⟨t, run, exec_inputs run, exec_offsetW run⟩

/-- Settles O41: a defined cycle is a reset edge or runs an instruction, and an instruction completes. -/
theorem stepStopsOnlyOnUndefinedInputs : Obligations.StepStopsOnlyOnUndefinedInputs := by
  refine fun s => ⟨fun noCycle => by rw [step, noCycle], fun p rest inputs => ?_⟩
  rw [step_cons inputs]
  refine ⟨fun defined => ?_, fun undef => by rw [request_eq_undefined_iff.mpr undef]⟩
  rcases request : p.request with _ | i | _
  · exact ⟨_, rfl, rfl, rfl⟩
  · exact everyInstructionCompletes i { s with inputs := rest }
  · exact absurd defined (request_eq_undefined_iff.mp request)

end

section
/-! ### Reset cycles (spec/70_reset_and_hazards.md R250, R251) -/

namespace Sys2Proof.Laws

open Sys2Proof.Machine

/-- A driven cycle with `rst` = 1 asks for a reset, whatever it presents on `cmd` and `din`. -/
theorem request_of_resetCycle {p : Pins} (driven : ∃ cmd hi lo, p = ⟨some true, some cmd, some hi, some lo⟩) :
    p.request = .reset := by
  obtain ⟨_, _, _, rfl⟩ := driven
  exact request_reset rfl rfl

/-- A reset cycle leaves the reset state, from any state. -/
theorem step_of_reset {s : State} {p : Pins} {rest : List Pins} (request : p.request = .reset)
    (inputs : s.inputs = p :: rest) : step s = .next { State.resetOf s.offsetW with inputs := rest } := by
  rw [step_cons inputs, request]
  rfl

/-- Reset cycles, none included, each take a step from the reset state and leave it. -/
theorem resetOf_of_reset_cycles (w : Nat) {rest held : List Pins} (resets : ∀ p ∈ held, p.request = .reset) :
    (trace held.length { State.resetOf w with inputs := held ++ rest }).length = held.length ∧
      finalState held.length { State.resetOf w with inputs := held ++ rest } =
        { State.resetOf w with inputs := rest } := by
  induction held with
  | nil => exact ⟨rfl, finalState_zero _⟩
  | cons p held ih =>
    obtain ⟨reset, later⟩ := List.forall_mem_cons.mp resets
    obtain ⟨length, final⟩ := ih later
    have stepped := step_of_reset (s := { State.resetOf w with inputs := p :: held ++ rest }) reset rfl
    rw [List.length_cons, trace_next stepped, finalState_next stepped]
    exact ⟨congrArg Nat.succ length, final⟩

end Sys2Proof.Laws

open Sys2Proof Sys2Proof.Machine Sys2Proof.Laws

/-- Settles O1: such a cycle asks for a reset, and the reset state has each element at its reset value. -/
theorem resetCycleSetsEveryElement : Obligations.ResetCycleSetsEveryElement :=
  ⟨fun _ cmd hi lo _ inputs => step_of_reset (request_of_resetCycle ⟨cmd, hi, lo, rfl⟩) inputs, fun _ => rfl⟩

/-- Settles O2: the first cycle of the run leaves the reset state, and the cycles after it keep it. -/
theorem holdingResetGivesTheResetState : Obligations.HoldingResetGivesTheResetState := by
  intro s held rest inputs nonempty driven
  obtain ⟨p, later, rfl⟩ := List.exists_cons_of_ne_nil nonempty
  obtain ⟨reset, resets⟩ := List.forall_mem_cons.mp fun q mem => request_of_resetCycle (driven q mem)
  obtain ⟨length, final⟩ := resetOf_of_reset_cycles s.offsetW (rest := rest) resets
  have stepped := step_of_reset reset inputs
  rw [List.length_cons, trace_next stepped, finalState_next stepped]
  exact ⟨congrArg Nat.succ length, final⟩

end
